-- ==== Sys2Proof/Word.lean ====
section
/-! DEFINITION. The plainest data the whole model shares: a byte, a block of flash data, and one value of the
converter. Everything else that the spec counts (millimetres, milliseconds, identities) is a whole number, `Nat` or
`Int`, with the width the spec gives stated where it is kept (00_scope.md, "Units and quantities"). -/

namespace Sys2Proof

/-- One byte on the ride channel, on TAG, in the configuration block or in the content flash. -/
abbrev Byte := BitVec 8

/-- The 512 bytes of one content flash block (08_content_memory.md, 8.1). -/
abbrev BlockData := Vector Byte 512

/-- One value of the 12-bit converter, 0 to 4095 (R82). -/
abbrev Conversion := BitVec 12

end Sys2Proof
end

