-- ==== Sys2Proof/Syntax.lean ====
section
/-! DEFINITION. The commands of the block: one constructor per row of spec/opcode_table.json, in the table's order.
The table gives the rows no bits and no operands, so each operand is what the rule the row names needs from outside
the part. Every command carries `dt`, the time in microseconds that has passed since the command before it
(notes/assumptions/1.md); a received frame and every memory read carry the bytes themselves, so that the checks the
spec lays down (CRC, lengths, ranges) are made by the model and not by the sender of the command. -/

namespace Sys2Proof

inductive Instr where
  /-- POWER_ON_RESET (R161). -/
  | powerOnReset (dt : Nat)
  /-- CONFIG_BLOCK_LOADED (R161): `bytes` are the bytes read over I²C before the read ended or broke off; no bytes
  stand for a memory that does not acknowledge. -/
  | configBlockLoaded (dt : Nat) (bytes : List Byte)
  /-- CONTENT_CHECK_DONE (R120): the first bytes of block 0, the clip directory and the cue directory as read. -/
  | contentCheckDone (dt : Nat) (header clipDirectory cueDirectory : List Byte)
  /-- ENC_EDGE (R1, R2). -/
  | encEdge (dt : Nat)
  /-- CAPTURE_OVERFLOW (R3). -/
  | captureOverflow (dt : Nat)
  /-- TAG_RECORD (R4, R5): `span` is the time from the record's first character to its twentieth. -/
  | tagRecord (dt span : Nat) (bytes : Vector Byte 20)
  /-- TAG_IDLE_TIMEOUT (R4): `span` is the time from the partial record's first character to its last. -/
  | tagIdleTimeout (dt span : Nat)
  /-- FRAME_DISCARDED (R21, R23): the bytes of the frame on RXD, the preamble first. -/
  | frameDiscarded (dt : Nat) (bytes : List Byte)
  /-- DUPLICATE_ID (R22). -/
  | duplicateId (dt : Nat) (bytes : List Byte)
  /-- POSE_RECEIVED (R37). -/
  | poseReceived (dt : Nat) (bytes : List Byte)
  /-- CUE_RECEIVED (R130). -/
  | cueReceived (dt : Nat) (bytes : List Byte)
  /-- SYNC_RECEIVED (R128). -/
  | syncReceived (dt : Nat) (bytes : List Byte)
  /-- CHECK_RECEIVED (R114). -/
  | checkReceived (dt : Nat) (bytes : List Byte)
  /-- VERDICT_RECEIVED (R24). -/
  | verdictReceived (dt : Nat) (bytes : List Byte)
  /-- DISPATCH_RECEIVED (R116). -/
  | dispatchReceived (dt : Nat) (bytes : List Byte)
  /-- CLEAR_FAULTS (R164). -/
  | clearFaults (dt : Nat) (bytes : List Byte)
  /-- CLEAR_PEER (R40). -/
  | clearPeer (dt : Nat) (bytes : List Byte)
  /-- HOLDALL (R77). -/
  | holdall (dt : Nat) (bytes : List Byte)
  /-- RESUME (R78, R12). -/
  | resume (dt : Nat) (bytes : List Byte)
  /-- QUERY (R166). -/
  | query (dt : Nat) (bytes : List Byte)
  /-- STATUS_RECEIVED (R24). -/
  | statusReceived (dt : Nat) (bytes : List Byte)
  /-- RESTART (R162). -/
  | restart (dt : Nat) (bytes : List Byte)
  /-- ATTEMPT_START (R29). -/
  | attemptStart (dt : Nat)
  /-- ATTEMPT_SUCCESS (R30). -/
  | attemptSuccess (dt : Nat)
  /-- COLLISION (R31). -/
  | collision (dt : Nat)
  /-- RETRY_WAIT_EXPIRY (R31). -/
  | retryWaitExpiry (dt : Nat)
  /-- DEAF_TIMER_EXPIRY (R33). -/
  | deafTimerExpiry (dt : Nat)
  /-- ANNOUNCE_TIMER_EXPIRY (R44). -/
  | announceTimerExpiry (dt : Nat)
  /-- NEIGHBOUR_AGEING (R39) of the entry of vehicle `peer`. -/
  | neighbourAgeing (dt peer : Nat)
  /-- CLAIM_WINDOW_EXPIRY (R52). -/
  | claimWindowExpiry (dt : Nat)
  /-- DRIVE_PERIOD (R65). -/
  | drivePeriod (dt : Nat)
  /-- STANDSTILL_TIMER_EXPIRY (R70). -/
  | standstillTimerExpiry (dt : Nat)
  /-- OVERSPEED_TIMER_EXPIRY (R73). -/
  | overspeedTimerExpiry (dt : Nat)
  /-- CHAIN_OPEN (R72, R90): the CHAIN line goes low. -/
  | chainOpen (dt : Nat)
  /-- CHAIN_CLOSE (R90): the CHAIN line goes high. -/
  | chainClose (dt : Nat)
  /-- RESTART_LINE_REQUEST (R91, R162). -/
  | restartLineRequest (dt : Nat)
  /-- RESTART_LINE_READY (R91). -/
  | restartLineReady (dt : Nat)
  /-- RESTRAINT_SCAN_TIMER_EXPIRY (R85). -/
  | restraintScanTimerExpiry (dt : Nat)
  /-- SCAN_END (R87): the values of the ten channels; the scan that ends took those of its own list. -/
  | scanEnd (dt : Nat) (channels : Vector Conversion 10)
  /-- LATCH_EDGE (R89): the line of latch `latch` (1 to 8) goes to the level `high`. -/
  | latchEdge (dt latch : Nat) (high : Bool)
  /-- LATCH_SETTLE_EXPIRY (R89) of latch `latch` (1 to 8). -/
  | latchSettleExpiry (dt latch : Nat)
  /-- SERVO_FRAME_START (R93). -/
  | servoFrameStart (dt : Nat)
  /-- GUIDE_LOSS_EXPIRY (R101). -/
  | guideLossExpiry (dt : Nat)
  /-- SUSPECT_TIMER_EXPIRY (R110) of restraint `bar` (1 to 8). -/
  | suspectTimerExpiry (dt bar : Nat)
  /-- SPIEL_REPEAT_EXPIRY (R112). -/
  | spielRepeatExpiry (dt : Nat)
  /-- READ_COMPLETE (R126): the data the flash gave; a directory entry is its first 8 or 32 bytes. -/
  | readComplete (dt : Nat) (data : BlockData)
  /-- SCENE_TIME_REACHED (R134) of scene `scene` (1 to 15). -/
  | sceneTimeReached (dt scene : Nat)
  /-- SCENE_CLOCK_EXPIRY (R128) of scene `scene` (1 to 15). -/
  | sceneClockExpiry (dt scene : Nat)
  /-- SHOW_HOLD_EXPIRY (R138). -/
  | showHoldExpiry (dt : Nat)
  /-- EFFECT_TIMER_EXPIRY (R139) of effect line `line` (1 to 8). -/
  | effectTimerExpiry (dt line : Nat)
  /-- OUTPUT_PERIOD (R146, R158). -/
  | outputPeriod (dt : Nat)
  /-- FADE_END (R147) of voice `voice` (1 to 3). -/
  | fadeEnd (dt voice : Nat)
  /-- LOCKED_VOICE_TICK (R156) of voice `voice` (1 to 3). -/
  | lockedVoiceTick (dt voice : Nat)
  /-- IDLE_TIMER_EXPIRY (R159). -/
  | idleTimerExpiry (dt : Nat)
  /-- WAKE_TIMER_EXPIRY (R159). -/
  | wakeTimerExpiry (dt : Nat)
  /-- TAG_CHARACTER_ERROR (R4): `span` is the time from the record's first character to the bad one. -/
  | tagCharacterError (dt span : Nat)
  /-- TAG_EXCESS_CHARACTERS (R4). -/
  | tagExcessCharacters (dt : Nat)
  /-- CD_RISE (R21, R29). -/
  | cdRise (dt : Nat)
  /-- CD_FALL (R21, R29). -/
  | cdFall (dt : Nat)
  /-- RESTART_LINE_EDGE (R91): the RESTART line goes to the level `high`. -/
  | restartLineEdge (dt : Nat) (high : Bool)
  deriving DecidableEq, Repr

end Sys2Proof
end

