-- ==== Sys2Proof/Decode.lean ====
section
/-! DEFINITION. The commands that words spell. spec/opcode_table.json gives no row of this hardware any bits: the part
is driven by frames, records and events and has no command words, so no word spells a command. -/

namespace Sys2Proof

/-- The command that a word of `nbits` bits spells: none (notes/assumptions/4.md). -/
def decodeTableWord (_nbits _w : Nat) : Option Instr :=
  none

end Sys2Proof
end

