-- ==== Sys2Proof/Config.lean ====
section
/-! DEFINITION. What is fixed for one machine: the configuration image that the configuration block gives (R161 and the
Formats table "Configuration block" of 11_start_up_settings_and_status.md), the image that stands for "no block read
yet", and the model's free values. -/

namespace Sys2Proof

/-- The configuration image: every field of the configuration block but the marker and the CRC, under the spec's
names, after clamping (R161). Bit masks stay bit vectors; everything else is a whole number in the field's unit. -/
structure ConfigImage where
  configId : Nat
  vehicleId : Nat
  restraintCount : Nat
  vehicleLength : Nat
  stopMargin : Nat
  reactionTime : Nat
  serviceDecel : Nat
  acceleration : Nat
  crawlSpeed : Nat
  fullScale : Nat
  overspeedMargin : Nat
  announcePeriod : Nat
  claimWindow : Nat
  /-- loss time in ms, the value times its scale -/
  lossTime : Nat
  missTolerance : Nat
  encoderPitch : Nat
  encoderDivider : Nat
  restraintScanPeriod : Nat
  suspectTime : Nat
  lockThreshold : Nat
  /-- bit i − 1 set: latch i is closed when its line is HIGH -/
  latchPolarity : BitVec 8
  guideMinimum : Nat
  guideRange : Nat
  guideLossTime : Nat
  steeringCentre : Nat
  steeringMinimum : Nat
  steeringMaximum : Nat
  kp : Nat
  kd : Nat
  slew : Nat
  masterGain : Nat
  duck : Nat
  spielClip : Nat
  /-- seconds -/
  spielRepeat : Nat
  /-- amplifier idle threshold: the value, and the ms of one unit -/
  idleValue : Nat
  idleScale : Nat
  /-- amplifier wake time: the value, and the ms of one unit -/
  wakeValue : Nat
  wakeScale : Nat
  /-- bit i − 1 set: the fault level of effect line i is ON -/
  effectFaults : BitVec 8
  deriving DecidableEq, Repr

/-- What stands in for the image while no block has been read, or the block is bad: a loss time of 2,048 ms and every
effect fault level OFF (R161). No rule reads another field of it in LOADING or INHIBIT (notes/assumptions/6.md). -/
def Config.unread : ConfigImage :=
  ⟨0, 0, 0, 0, 0, 0, 0, 0, 0, 0, 0, 0, 0, 2048, 0, 0, 0, 0, 0, 0, 0#8, 0, 0, 0, 0, 0, 0, 0, 0, 0, 0, 0, 0, 0, 0, 1,
    0, 1, 0#8⟩

/-- FREE VALUE (DESIGN CHOICE, notes/assumptions/7.md). The distance an ARM action places its cue at when the entry's
distance word lies above 4,095, the top of the range R137 gives; R137 states no result for such a word. -/
opaque Config.armDistanceBeyond : Nat → Nat

/-- FREE VALUE (DESIGN CHOICE, notes/assumptions/8.md). The bits of a sent frame's bytes to which the Formats section
gives no name: those of the POSE flag byte (place 0), of the POSE count byte (place 1) and of STATUS byte 36
(place 2). -/
opaque Config.unnamedBits : Nat → Nat

/-- FREE VALUE (DESIGN CHOICE, notes/assumptions/8.md). What STATUS carries as the ride time of the first fault when
there is none. -/
opaque Config.absentFaultTime : Nat

/-- FREE VALUE (DESIGN CHOICE, notes/assumptions/8.md). What STATUS carries as the underrun record's voice (place 0),
clip (place 1) and block (place 2) when there is no underrun record. -/
opaque Config.absentUnderrun : Nat → Nat

end Sys2Proof
end

