-- ==== Sys2Proof/Machine/State.lean ====
section
/-! DEFINITION. Everything the spec gives the part, block by block as 00_scope.md names the blocks, as plain data; the
reasons a step can stop; and the part as it stands right after power-on reset. INVENTORY.md, under State, lists every
field with its rule and its reset value.

Times. `nowUs` counts microseconds from power-on and `epochUs` is the value it had at the last reset, so ride time is
the difference in whole milliseconds, modulo 2^32 (00_scope.md, "Ride time and the odometer"). Timers are held as the
value of `nowUs` at which they expire; time stamps that the spec calls ride times are held in ride-time milliseconds,
as integers, because R35 and R128 move them back at a warm reset and let them be negative. See notes/assumptions/1.md
and notes/assumptions/2.md. -/

namespace Sys2Proof.Machine

/-- Why a step stops with a fault: never. The spec gives every command an effect in every state, so this type has no
constructor, and no claim about a fault can be made (safe). -/
inductive Fault where
  deriving DecidableEq, Repr

/-- Why a step refuses a command. -/
inductive Refusal where
  /-- Raised by `exec` for a row of the table that has no meaning yet. No row is left so, so it is never raised
  (safe: a refusal proves nothing about the part). -/
  | notModelled (mnemonic : String)
  deriving DecidableEq, Repr

/-! ### Zone items, the configuration's and the frames' fields -/

/-- A zone item "zone base/span": 2^span zones from zone `base` (00_scope.md, "Zone items"). -/
structure ZoneItem where
  base : Nat
  span : Nat
  deriving DecidableEq, Repr

/-- The ten limit entries in their fixed order (R60). -/
inductive LimitSource where
  | cap | zone | tag | guide | load | showHold | ride | restraint | channel | safety
  deriving DecidableEq, Repr

/-- The run states (R161). -/
inductive RunState where
  | loading | inhibit | run
  deriving DecidableEq, Repr

/-- The fault kinds of the fault record (R163). -/
inductive FaultKind where
  | chainOpen | overspeed | overrun | duplicateId | positionConflict | restraint | guideLost | tagMiss | txFail
  | configBad | contentBad
  deriving DecidableEq, Repr

/-- The fault set: for each kind, whether it is in the set (R163). -/
structure FaultSet where
  chainOpen : Bool
  overspeed : Bool
  overrun : Bool
  duplicateId : Bool
  positionConflict : Bool
  restraint : Bool
  guideLost : Bool
  tagMiss : Bool
  txFail : Bool
  configBad : Bool
  contentBad : Bool
  deriving DecidableEq, Repr

/-- The causes of a safety stop (R71). -/
inductive StopCause where
  | chainOpen | overspeed | overrun | positionConflict | duplicateId | inhibit
  deriving DecidableEq, Repr

/-- The set of latched stop causes (R71). -/
structure CauseSet where
  chainOpen : Bool
  overspeed : Bool
  overrun : Bool
  positionConflict : Bool
  duplicateId : Bool
  inhibit : Bool
  deriving DecidableEq, Repr

/-- The thirteen counters, each 0 to 65,535 (R165). -/
structure Counters where
  txDropped : Nat
  txGiveUps : Nat
  tagErrors : Nat
  scanOverruns : Nat
  curveBreaches : Nat
  cuesLost : Nat
  lateCues : Nat
  missedCues : Nat
  underruns : Vector Nat 4
  contentErrors : Nat
  deriving DecidableEq, Repr

/-- The latest underrun: voice, clip and block within the clip (R152). -/
structure UnderrunRecord where
  voice : Nat
  clip : Nat
  block : Nat
  deriving DecidableEq, Repr

/-- The states of one restraint (R109 to R111). -/
inductive BarState where
  | opened | locked | suspect | fault
  deriving DecidableEq, Repr

/-! ### Frames -/

/-- The fields of a POSE (R42, 02_the_ride_channel.md "Frame kinds"). -/
structure PoseBody where
  here : Option ZoneItem
  distance : Nat
  speed : Nat
  period : Nat
  isUnknown : Bool
  isAdrift : Bool
  isFault : Bool
  isStopped : Bool
  isRefused : Bool
  /-- the binding source's number in table order, 0 to 9 -/
  binding : Nat
  held : List ZoneItem
  claim : Option ZoneItem
  deriving DecidableEq, Repr

/-- The fields of a CUE: the cue number, and the scene with its time when the scene number is not 0. -/
structure CueBody where
  cue : Nat
  scene : Option (Nat × Nat)
  deriving DecidableEq, Repr

/-- The fields of a STATUS (R166). -/
structure StatusBody where
  faults : FaultSet
  first : Option (FaultKind × Nat)
  clamped : Bool
  counters : Counters
  configId : Nat
  contentVersion : Nat
  run : RunState
  underrun : Option UnderrunRecord
  deriving DecidableEq, Repr

/-- The body of a frame this vehicle sends (R25): only these four kinds. -/
inductive TxBody where
  | pose (p : PoseBody)
  | verdict (pass : Bool) (bars : List BarState)
  | status (b : StatusBody)
  | cue (c : CueBody)
  deriving DecidableEq, Repr

/-- Where a queued frame stands: waiting to be chosen, under transmission, or in its retry wait until `deadline`
(R26, R31). -/
inductive TxStatus where
  | queued
  | onAir
  | retrying (deadline : Nat)
  deriving DecidableEq, Repr

/-- A frame in the transmit queue (02_the_ride_channel.md, 2.5). Its age is its place in the queue. The sequence number
is present from its first attempt on (R25). -/
structure TxFrame where
  dest : Nat
  body : TxBody
  attempts : Nat
  seq : Option Nat
  status : TxStatus
  deriving DecidableEq, Repr

/-- The attempt in progress: when TXEN rose, and the bytes of the frame on TXD (R30). -/
structure Attempt where
  startUs : Nat
  bytes : List Byte
  deriving DecidableEq, Repr

/-- What the receiver does with RXD (R21): waits for CD to rise, assembles a frame, or ignores the line until CD
falls. -/
inductive Receiver where
  | awaitingCarrier | assembling | ignoring
  deriving DecidableEq, Repr

/-! ### Path Tracker -/

inductive PositionState where
  | unknown | tracking | adrift
  deriving DecidableEq, Repr

/-- The item entered at the boundary mark, and the mark: always both present or both absent (R11, R9). -/
structure NextStretch where
  item : ZoneItem
  mark : Nat
  deriving DecidableEq, Repr

/-- The path window (01_position_and_path.md, 1.1). -/
structure PathWindow where
  here : ZoneItem
  next : Option NextStretch
  capHere : Nat
  capNext : Nat
  load : Bool
  scene : Nat
  expected : Option Nat
  confirmed : Bool
  deriving DecidableEq, Repr

/-- The start of the encoder period being measured (R2). -/
structure CaptureReference where
  timeUs : Nat
  count : Nat
  deriving DecidableEq, Repr

/-- The tag receiver (R4): since when TAG has been idle as far as the commands tell, whether the last characters
completed a record, and whether characters after that record have already been counted. -/
structure TagReceiver where
  idleSince : Nat
  afterRecord : Bool
  excessCounted : Bool
  deriving DecidableEq, Repr

structure PathState where
  odometer : Nat
  remainder : Nat
  capture : Option CaptureReference
  overflowDue : Option Nat
  speed : Nat
  pos : PositionState
  window : Option PathWindow
  lastTag : Option Nat
  recover : Bool
  receiver : TagReceiver
  deriving DecidableEq, Repr

/-! ### Channel Interface -/

structure ChannelState where
  queue : List TxFrame
  attempt : Option Attempt
  pendingPose : Option PoseBody
  seqCounter : Nat
  /-- last sequence number heard from sources 0 to 63 -/
  lastSeq : Vector (Option Nat) 64
  deafDue : Option Nat
  deaf : Bool
  poseGiveUps : Nat
  txFail : Bool
  /-- ride time of the last duplicate, moved back at a warm reset (R35) -/
  lastDuplicate : Option Int
  receiver : Receiver
  /-- absent while CD is high, otherwise since when CD has been low (R29) -/
  cdLowSince : Option Nat
  deriving DecidableEq, Repr

/-! ### Zone Controller -/

inductive Freshness where
  | live | stale | lost
  deriving DecidableEq, Repr

/-- A neighbour entry that is not ABSENT (R37); its age is the time since `heardUs` (R39). -/
structure Neighbour where
  fresh : Freshness
  heardUs : Nat
  period : Nat
  here : Option ZoneItem
  held : List ZoneItem
  claim : Option ZoneItem
  deriving DecidableEq, Repr

structure HeldItem where
  item : ZoneItem
  release : Option Nat
  deriving DecidableEq, Repr

/-- A peer of the evidence set, with its heard mark (R48). -/
structure Evidence where
  peer : Nat
  heard : Bool
  deriving DecidableEq, Repr

inductive ClaimPhase where
  | waiting
  | listen (startMs : Nat) (evidence : List Evidence)
  deriving DecidableEq, Repr

structure Claim where
  item : ZoneItem
  phase : ClaimPhase
  deriving DecidableEq, Repr

structure ZoneState where
  /-- entry of vehicle k at place k − 1; `none` is ABSENT -/
  neighbours : Vector (Option Neighbour) 31
  hold : List HeldItem
  claim : Option Claim
  announceDue : Option Nat
  refusedPending : Bool
  deriving DecidableEq, Repr

/-! ### Motion Governor -/

structure LimitTable where
  cap : Nat
  zone : Nat
  tag : Nat
  guide : Nat
  load : Nat
  showHold : Nat
  ride : Nat
  restraint : Nat
  channel : Nat
  safety : Nat
  deriving DecidableEq, Repr

inductive RampDirection where
  | up | down | none
  deriving DecidableEq, Repr

inductive Brake where
  | off | assist | hold | stop
  deriving DecidableEq, Repr

/-- The standstill timer (R70): not running, running, or expired and waiting for one of its conditions to cease. -/
inductive StandstillTimer where
  | idle
  | running (deadline : Nat)
  | spent
  deriving DecidableEq, Repr

structure GovernorState where
  limits : LimitTable
  target : Nat
  rampRemainder : Nat
  rampDirection : RampDirection
  width : Nat
  nextWidth : Nat
  /-- the next boundary of the period timer (R65) -/
  periodDue : Nat
  brake : Brake
  standstill : StandstillTimer
  overspeedDue : Option Nat
  causes : CauseSet
  deriving DecidableEq, Repr

/-! ### Analog Scanner and Input Lines -/

inductive ListState where
  | idle | pending | running
  deriving DecidableEq, Repr

inductive LatchState where
  | opened | closed
  deriving DecidableEq, Repr

/-- One latch input (R89): its line, the accepted state, and its settle timer. -/
structure LatchInput where
  high : Bool
  accepted : LatchState
  settleDue : Option Nat
  deriving DecidableEq, Repr

structure ScannerState where
  guideList : ListState
  restraintList : ListState
  /-- when the running scan ends; the converter is BUSY while this is present (R82) -/
  scanDue : Option Nat
  guideResult : Option (Nat × Nat)
  restraintResult : Option (List Nat)
  timerDue : Option Nat
  latches : Vector LatchInput 8
  /-- CHAIN is high: the chain is CLOSED (R90) -/
  chainHigh : Bool
  /-- RESTART is high, since `restartSince`; whether the line is ready (R91) -/
  restartHigh : Bool
  restartSince : Nat
  restartReady : Bool
  deriving DecidableEq, Repr

/-! ### Steering Controller -/

inductive GuideState where
  | good | fading | weak | lost
  deriving DecidableEq, Repr

/-- The working limits formed when the run state becomes RUN (R94). -/
structure WorkingLimits where
  low : Nat
  high : Nat
  centre : Nat
  deriving DecidableEq, Repr

structure SteeringState where
  frameDue : Option Nat
  /-- the start of the present frame, from which SERVO is high for the width in force (R93) -/
  frameStart : Option Nat
  working : Option WorkingLimits
  width : Nat
  pendingWidth : Option Nat
  lastOffset : Option Int
  guide : GuideState
  weakCount : Nat
  lossDue : Option Nat
  deriving DecidableEq, Repr

/-! ### Restraint Monitor -/

structure Bar where
  state : BarState
  suspectDue : Option Nat
  latch : LatchState
  position : Option Nat
  deriving DecidableEq, Repr

structure RestraintState where
  bars : Vector Bar 8
  /-- judging is ACTIVE -/
  judging : Bool
  /-- the end of the 20 ms wait (R105) -/
  judgeFrom : Nat
  ready : Bool
  dispatched : Bool
  /-- load standstill as the Restraint Monitor last found it, to tell its beginning and end (R107) -/
  standstill : Bool
  spielDue : Option Nat
  deriving DecidableEq, Repr

/-! ### Content Reader -/

/-- A clip directory entry (08_content_memory.md, 8.1). -/
structure ClipEntry where
  start : Nat
  length : Nat
  last : Nat
  loop : Bool
  deriving DecidableEq, Repr

inductive CompareType where
  | atMark | within | before
  deriving DecidableEq, Repr

inductive Secondary where
  | none
  | slowerThan (speed : Nat)
  | sceneTime (ms : Nat)
  | pathClear
  deriving DecidableEq, Repr

/-- An action of a cue, with its parameters as the entry holds them (R136 to R139). -/
inductive Action where
  | play (voice clip gain : Nat) (loop locked : Bool)
  | stop (voice fade : Nat)
  | pin (clip : Nat)
  | unpin (clip : Nat)
  | effect (line mode first second : Nat)
  | hold (ms : Nat)
  | send
  | arm (cue distance : Nat)
  deriving DecidableEq, Repr

structure CueEntry where
  compare : CompareType
  window : Nat
  secondary : Secondary
  /-- combine is OR -/
  either : Bool
  actions : List Action
  deriving DecidableEq, Repr

inductive CheckResult where
  | unset | pass | bad
  deriving DecidableEq, Repr

/-- What a read is for: a block, a clip directory entry, a cue directory entry (8.3). -/
inductive Target where
  | block (b : Nat)
  | clipEntry (clip : Nat)
  | cueEntry (cue : Nat)
  deriving DecidableEq, Repr

/-- Who asks: a voice, a pin place (1 or 2), an armed record, named by its cue number and mark (8.3, R129). -/
inductive Requester where
  | voice (v : Nat)
  | pin (place : Nat)
  | record (cue mark : Nat)
  deriving DecidableEq, Repr

/-- A requester named on a request, with the serial number of its naming. -/
structure Waiter where
  who : Requester
  serial : Nat
  deriving DecidableEq, Repr

/-- A waiting request: its target, its requesters in the order they joined, and the serial number at which it entered
its class (R122 to R124). -/
structure ReadRequest where
  target : Target
  waiters : List Waiter
  entered : Nat
  deriving DecidableEq, Repr

/-- The Content Reader is IDLE, READING, or inside step 2 of R126, handing the data of a finished read to those who
still wait for it. It is DISABLED while the check result is BAD. -/
inductive ReaderState where
  | idle
  | reading (target : Target) (waiters : List Waiter) (doneUs : Nat)
  | delivering (rest : List Waiter)
  deriving DecidableEq, Repr

structure ContentState where
  check : CheckResult
  version : Nat
  reader : ReaderState
  queue : List ReadRequest
  lastVoice : Nat
  /-- the next serial number (the model's own: the order in which requesters were named) -/
  serial : Nat
  deriving DecidableEq, Repr

/-! ### Cue Engine -/

/-- A scene clock entry (R128); the receipt time is in ride-time ms and may be negative after a warm reset. -/
structure SceneClock where
  value : Nat
  receipt : Int
  valid : Bool
  deriving DecidableEq, Repr

inductive Origin where
  | tag | frame | arm
  deriving DecidableEq, Repr

/-- An armed record (9.2); it is LOADING while its entry is absent and ARMED once it is present. -/
structure ArmedRecord where
  cue : Nat
  mark : Nat
  origin : Origin
  frameScene : Option (Nat × Nat)
  entry : Option CueEntry
  deriving DecidableEq, Repr

/-- The mode of an effect line with the timer it needs (R139). -/
inductive EffectMode where
  | off
  | on
  | pulse (deadline : Nat)
  | blink (high low : Nat) (phaseOn : Bool) (deadline : Nat)
  deriving DecidableEq, Repr

/-- The show hold (R138); a RUNNING hold's expiry is in ride-time ms. -/
inductive ShowHold where
  | none
  | pending (duration : Nat)
  | running (expiry : Nat)
  deriving DecidableEq, Repr

structure CueState where
  clocks : Vector SceneClock 15
  armed : List ArmedRecord
  effects : Vector EffectMode 8
  hold : ShowHold
  /-- the two causes of suspension the Cue Engine has been told of (R140) -/
  restraintStop : Bool
  safetyStop : Bool
  deriving DecidableEq, Repr

/-! ### Sound Engine -/

inductive VoiceState where
  | idle | starting | paused | playing | stopping
  deriving DecidableEq, Repr

structure SceneLock where
  scene : Nat
  start : Nat
  deriving DecidableEq, Repr

/-- A drift correction in progress (R157): DROP or REPEAT, the remaining count, and the samples output since it was
set. -/
structure Trim where
  drop : Bool
  remaining : Nat
  outputs : Nat
  deriving DecidableEq, Repr

/-- The fade of a STOPPING voice (R147): its length, and the ride time in ms at which it began. -/
structure Fade where
  length : Nat
  beganMs : Nat
  deriving DecidableEq, Repr

/-- The block a voice plays from: its number within the clip, and the voice's own copy of the data (R149). -/
structure PlayBuffer where
  block : Nat
  data : BlockData
  deriving DecidableEq, Repr

/-- A voice record (10.1). -/
structure Voice where
  state : VoiceState
  clip : Nat
  entry : Option ClipEntry
  position : Nat
  gain : Nat
  loop : Bool
  lock : Option SceneLock
  trim : Option Trim
  jump : Bool
  fade : Option Fade
  buffer : Option PlayBuffer
  waiting : Bool
  /-- the start block last worked out in STARTING (R156) -/
  startBlock : Option Nat
  deriving DecidableEq, Repr

/-- A cache slot (R149). -/
inductive Slot where
  | invalid
  | filling (b : Nat)
  | valid (b : Nat) (data : BlockData)
  deriving DecidableEq, Repr

/-- A set of the cache: its four ways, and the ways from least to most recently used (R149). -/
structure CacheSet where
  ways : Vector Slot 4
  order : List Nat
  deriving DecidableEq, Repr

inductive PinPhase where
  | entry | filling | held
  deriving DecidableEq, Repr

/-- A used pin place (R153). Place 1 locks way 0 and place 2 way 1. -/
structure Pin where
  clip : Nat
  entry : Option ClipEntry
  phase : PinPhase
  deriving DecidableEq, Repr

/-- The amplifier with the timer of its state (R159). -/
inductive Amplifier where
  | active
  | muted (idleDue : Nat)
  | standby
  | waking (wakeDue : Nat)
  deriving DecidableEq, Repr

structure SoundState where
  voices : Vector Voice 4
  cache : Vector CacheSet 32
  /-- pin place p at place p − 1; the lock flag of a way is set while its place is in use -/
  pins : Vector (Option Pin) 2
  paused : Bool
  amp : Amplifier
  underrun : Option UnderrunRecord
  /-- the sample last sent on I²S (R158) -/
  output : Int
  /-- output periods taken since power-on: the next begins at this count times 125/3 µs -/
  outputCount : Nat
  deriving DecidableEq, Repr

/-! ### Start-up and Status, and the whole part -/

structure StartUpState where
  run : RunState
  config : Option ConfigImage
  clamped : Bool
  faults : FaultSet
  first : Option (FaultKind × Nat)
  counters : Counters
  deriving DecidableEq, Repr

structure State where
  /-- commands that wait, first in first out (the model's own) -/
  pending : List Instr
  nowUs : Nat
  epochUs : Nat
  startUp : StartUpState
  path : PathState
  channel : ChannelState
  zone : ZoneState
  governor : GovernorState
  scanner : ScannerState
  steering : SteeringState
  restraints : RestraintState
  content : ContentState
  cues : CueState
  sound : SoundState
  deriving DecidableEq, Repr

/-! ### Reset values -/

def FaultSet.empty : FaultSet :=
  ⟨false, false, false, false, false, false, false, false, false, false, false⟩

def CauseSet.empty : CauseSet :=
  ⟨false, false, false, false, false, false⟩

def Counters.zero : Counters :=
  ⟨0, 0, 0, 0, 0, 0, 0, 0, Vector.replicate 4 0, 0⟩

/-- A restraint after either reset (R119). -/
def Bar.reset : Bar :=
  ⟨.opened, none, .opened, none⟩

/-- A voice after either reset: IDLE, its record cleared (R160). -/
def Voice.clear : Voice :=
  ⟨.idle, 0, none, 0, 0, false, none, none, false, none, none, false, none⟩

/-- A cache set after power-on reset: every slot INVALID, ways 0 to 3 from least to most recent (R160). -/
def CacheSet.reset : CacheSet :=
  ⟨Vector.replicate 4 .invalid, [0, 1, 2, 3]⟩

def LimitTable.reset : LimitTable :=
  ⟨4000, 4000, 0, 4000, 4000, 4000, 0, 4000, 4000, 0⟩

/-- Right after power-on reset (R161 and every block's reset table: R18, R35, R59, R81, R92, R104, R119, R127, R143,
R160). The levels of the input lines and the phase of the output periods are the model's: notes/assumptions/3.md. -/
def State.reset : State where
  pending := []
  nowUs := 0
  epochUs := 0
  startUp := ⟨.loading, none, false, FaultSet.empty, none, Counters.zero⟩
  path := ⟨0, 0, none, none, 0, .unknown, none, none, false, ⟨0, false, false⟩⟩
  channel := ⟨[], none, none, 0, Vector.replicate 64 none, none, false, 0, false, none, .awaitingCarrier, some 0⟩
  zone := ⟨Vector.replicate 31 none, [], none, none, false⟩
  governor := ⟨LimitTable.reset, 0, 0, .none, 0, 0, 1000, .hold, .idle, none, CauseSet.empty⟩
  scanner := ⟨.idle, .idle, none, none, none, none, Vector.replicate 8 ⟨false, .opened, none⟩, true, true, 0, false⟩
  steering := ⟨none, none, none, 0, none, none, .good, 0, none⟩
  restraints := ⟨Vector.replicate 8 Bar.reset, false, 0, false, false, false, none⟩
  content := ⟨.unset, 0, .idle, [], 3, 0⟩
  cues := ⟨Vector.replicate 15 ⟨0, 0, false⟩, [], Vector.replicate 8 .off, .none, false, false⟩
  sound := ⟨Vector.replicate 4 Voice.clear, Vector.replicate 32 CacheSet.reset, Vector.replicate 2 none, false,
    .standby, none, 0, 0⟩

end Sys2Proof.Machine
end

