-- ==== Sys2Proof/Machine/Flags.lean ====
section
/-! DEFINITION. The flags and sets the part keeps: the fault record (R163), the set of latched stop causes (R71), the
counters (R165) and the limit table with its effective limit and binding source (R60, R61). -/

namespace Sys2Proof.Machine

/-! ### The fault set and the cause set -/

def FaultSet.has (f : FaultSet) : FaultKind → Bool
  | .chainOpen => f.chainOpen
  | .overspeed => f.overspeed
  | .overrun => f.overrun
  | .duplicateId => f.duplicateId
  | .positionConflict => f.positionConflict
  | .restraint => f.restraint
  | .guideLost => f.guideLost
  | .tagMiss => f.tagMiss
  | .txFail => f.txFail
  | .configBad => f.configBad
  | .contentBad => f.contentBad

def FaultSet.put (f : FaultSet) (b : Bool) : FaultKind → FaultSet
  | .chainOpen => { f with chainOpen := b }
  | .overspeed => { f with overspeed := b }
  | .overrun => { f with overrun := b }
  | .duplicateId => { f with duplicateId := b }
  | .positionConflict => { f with positionConflict := b }
  | .restraint => { f with restraint := b }
  | .guideLost => { f with guideLost := b }
  | .tagMiss => { f with tagMiss := b }
  | .txFail => { f with txFail := b }
  | .configBad => { f with configBad := b }
  | .contentBad => { f with contentBad := b }

def FaultSet.isEmpty (f : FaultSet) : Bool :=
  !(f.chainOpen || f.overspeed || f.overrun || f.duplicateId || f.positionConflict || f.restraint || f.guideLost ||
    f.tagMiss || f.txFail || f.configBad || f.contentBad)

def CauseSet.has (c : CauseSet) : StopCause → Bool
  | .chainOpen => c.chainOpen
  | .overspeed => c.overspeed
  | .overrun => c.overrun
  | .positionConflict => c.positionConflict
  | .duplicateId => c.duplicateId
  | .inhibit => c.inhibit

def CauseSet.put (c : CauseSet) (b : Bool) : StopCause → CauseSet
  | .chainOpen => { c with chainOpen := b }
  | .overspeed => { c with overspeed := b }
  | .overrun => { c with overrun := b }
  | .positionConflict => { c with positionConflict := b }
  | .duplicateId => { c with duplicateId := b }
  | .inhibit => { c with inhibit := b }

/-- A safety stop is in force while this is true (R71). -/
def CauseSet.any (c : CauseSet) : Bool :=
  c.chainOpen || c.overspeed || c.overrun || c.positionConflict || c.duplicateId || c.inhibit

/-- The fault kind under which a stop cause stands in the fault record (4.5). -/
def StopCause.fault : StopCause → FaultKind
  | .chainOpen => .chainOpen
  | .overspeed => .overspeed
  | .overrun => .overrun
  | .positionConflict => .positionConflict
  | .duplicateId => .duplicateId
  | .inhibit => .configBad

/-! ### Ride time (00_scope.md, "Ride time and the odometer") -/

/-- Milliseconds since the last reset, not yet taken modulo 2^32. -/
def State.rideCount (s : State) : Nat :=
  (s.nowUs - s.epochUs) / 1000

/-- Ride time: 32 bits wide. -/
def State.rideTime (s : State) : Nat :=
  s.rideCount % 4294967296

/-- The time elapsed from an earlier ride time to now, their difference modulo 2^32. -/
def State.elapsedSince (s : State) (stamp : Int) : Nat :=
  (((s.rideTime : Int) - stamp) % 4294967296).toNat

/-- A timer that is running and has run out. -/
def State.isDue (s : State) (timer : Option Nat) : Bool :=
  match timer with
  | some t => decide (t ≤ s.nowUs)
  | none => false

/-- The moment `ms` milliseconds from now. -/
def State.afterMs (s : State) (ms : Nat) : Nat :=
  s.nowUs + ms * 1000

/-! ### The fault record (R163) -/

/-- A fault is raised: it joins the set, and becomes the first fault, with the ride time now, if the set was empty. -/
def raiseFault (k : FaultKind) (s : State) : State :=
  { s with startUp := { s.startUp with
      faults := s.startUp.faults.put true k
      first := if s.startUp.faults.isEmpty then some (k, s.rideTime) else s.startUp.first } }

/-- A removal that leaves the set empty leaves no first fault. -/
def withFaults (f : FaultSet) (s : State) : State :=
  { s with startUp := { s.startUp with
      faults := f
      first := if f.isEmpty then none else s.startUp.first } }

def removeFault (k : FaultKind) (s : State) : State :=
  withFaults (s.startUp.faults.put false k) s

/-! ### Counters (R165) -/

/-- `n` events counted on a counter that stays at 65,535. -/
def saturate (c n : Nat) : Nat :=
  min 65535 (c + n)

def State.mapCounters (f : Counters → Counters) (s : State) : State :=
  { s with startUp := { s.startUp with counters := f s.startUp.counters } }

def countTxDropped (s : State) : State :=
  s.mapCounters fun c => { c with txDropped := saturate c.txDropped 1 }

def countTxGiveUp (s : State) : State :=
  s.mapCounters fun c => { c with txGiveUps := saturate c.txGiveUps 1 }

def countTagError (s : State) : State :=
  s.mapCounters fun c => { c with tagErrors := saturate c.tagErrors 1 }

def countScanOverrun (s : State) : State :=
  s.mapCounters fun c => { c with scanOverruns := saturate c.scanOverruns 1 }

def countCurveBreach (s : State) : State :=
  s.mapCounters fun c => { c with curveBreaches := saturate c.curveBreaches 1 }

def countCueLost (s : State) : State :=
  s.mapCounters fun c => { c with cuesLost := saturate c.cuesLost 1 }

def countLateCues (n : Nat) (s : State) : State :=
  s.mapCounters fun c => { c with lateCues := saturate c.lateCues n }

def countMissedCues (n : Nat) (s : State) : State :=
  s.mapCounters fun c => { c with missedCues := saturate c.missedCues n }

def countUnderrun (v : Nat) (s : State) : State :=
  s.mapCounters fun c => { c with underruns := c.underruns.setIfInBounds v (saturate (c.underruns.getD v 0) 1) }

def countContentError (s : State) : State :=
  s.mapCounters fun c => { c with contentErrors := saturate c.contentErrors 1 }

/-! ### The limit table (R60, R61) -/

def LimitTable.get (t : LimitTable) : LimitSource → Nat
  | .cap => t.cap
  | .zone => t.zone
  | .tag => t.tag
  | .guide => t.guide
  | .load => t.load
  | .showHold => t.showHold
  | .ride => t.ride
  | .restraint => t.restraint
  | .channel => t.channel
  | .safety => t.safety

def LimitTable.put (t : LimitTable) (v : Nat) : LimitSource → LimitTable
  | .cap => { t with cap := v }
  | .zone => { t with zone := v }
  | .tag => { t with tag := v }
  | .guide => { t with guide := v }
  | .load => { t with load := v }
  | .showHold => { t with showHold := v }
  | .ride => { t with ride := v }
  | .restraint => { t with restraint := v }
  | .channel => { t with channel := v }
  | .safety => { t with safety := v }

/-- The ten sources in table order. -/
def LimitSource.all : List LimitSource :=
  [.cap, .zone, .tag, .guide, .load, .showHold, .ride, .restraint, .channel, .safety]

/-- The lowest of the ten entries. -/
def LimitTable.effective (t : LimitTable) : Nat :=
  min t.cap (min t.zone (min t.tag (min t.guide (min t.load (min t.showHold (min t.ride (min t.restraint
    (min t.channel t.safety))))))))

/-- The first entry, in table order, that holds the lowest value. -/
def LimitTable.binding (t : LimitTable) : LimitSource :=
  (LimitSource.all.find? fun k => t.get k == t.effective).getD .cap

def setLimit (k : LimitSource) (v : Nat) (s : State) : State :=
  { s with governor := { s.governor with limits := s.governor.limits.put v k } }

/-- The configuration image, or what stands for it while there is none (R161). -/
def State.cfg (s : State) : ConfigImage :=
  s.startUp.config.getD Config.unread

end Sys2Proof.Machine
end

