-- ==== Sys2Proof/Machine/Operands.lean ====
section
/-! DEFINITION. The byte layouts the commands carry, as the Formats section of 11_start_up_settings_and_status.md lays
them down: frames with their CRC-16 (R20, R21, R23), tag records (R5), the configuration block with its clamping
(R161), and the content flash's header, directories and CRC-32 (R120, R126). Each layout is read by a total function
and, where the part writes it, written by one. -/

namespace Sys2Proof.Machine

/-! ### Bytes and words, most significant byte first -/

def byteAt (bs : List Byte) (i : Nat) : Nat :=
  (bs.getD i 0#8).toNat

def word16At (bs : List Byte) (i : Nat) : Nat :=
  byteAt bs i * 256 + byteAt bs (i + 1)

def word32At (bs : List Byte) (i : Nat) : Nat :=
  word16At bs i * 65536 + word16At bs (i + 2)

def byteOf (n : Nat) : Byte :=
  BitVec.ofNat 8 n

def bytesOf16 (n : Nat) : List Byte :=
  [byteOf (n / 256), byteOf n]

def bytesOf32 (n : Nat) : List Byte :=
  bytesOf16 (n / 65536) ++ bytesOf16 n

/-- Bit `k` of a byte or word. -/
def bitOf (n k : Nat) : Bool :=
  n / 2 ^ k % 2 == 1

/-- A Bool as the bit `k` of a byte or word. -/
def bitValue (b : Bool) (k : Nat) : Nat :=
  if b then 2 ^ k else 0

/-! ### CRC-16 and CRC-32 -/

def crc16Bit (c : BitVec 16) : BitVec 16 :=
  if c.msb then (c <<< 1) ^^^ 0x1021#16 else c <<< 1

def crc16Byte (c : BitVec 16) (b : Byte) : BitVec 16 :=
  crc16Bit (crc16Bit (crc16Bit (crc16Bit (crc16Bit (crc16Bit (crc16Bit (crc16Bit
    (c ^^^ (b.setWidth 16 <<< 8)))))))))

/-- The CRC-16 of R20: x^16 + x^12 + x^5 + 1, all sixteen bits set at the start, most significant bit first, no
inversion. It is 0 over an intact run of bytes that ends with its own CRC. -/
def crc16 (bs : List Byte) : BitVec 16 :=
  bs.foldl crc16Byte 0xFFFF#16

def crc32Bit (c : BitVec 32) : BitVec 32 :=
  if c.getLsbD 0 then (c >>> 1) ^^^ 0xEDB88320#32 else c >>> 1

def crc32Byte (c : BitVec 32) (b : Byte) : BitVec 32 :=
  crc32Bit (crc32Bit (crc32Bit (crc32Bit (crc32Bit (crc32Bit (crc32Bit (crc32Bit
    (c ^^^ b.setWidth 32))))))))

/-- The CRC-32 of R120: all 32 bits set at the start, each byte least significant bit first, the result inverted. R120 does
not say in which order the bits of the result are read as the 32-bit directory CRC. As in the common CRC-32, bit 31 of the
number is the coefficient of x^0 (PRESUMED, notes/assumptions/44.md). -/
def crc32 (bs : List Byte) : BitVec 32 :=
  ~~~ bs.foldl crc32Byte 0xFFFFFFFF#32

/-! ### Zone items (R36) -/

/-- An item aligned down to a multiple of its length. -/
def ZoneItem.align (it : ZoneItem) : ZoneItem :=
  ⟨it.base / 2 ^ it.span * 2 ^ it.span, it.span⟩

/-- Two items conflict when the ranges of zones they cover share a zone. -/
def ZoneItem.conflicts (x y : ZoneItem) : Bool :=
  decide (x.base < y.base + 2 ^ y.span ∧ y.base < x.base + 2 ^ x.span)

/-- Item `x` covers item `y` when every zone of `y` is a zone of `x`. -/
def ZoneItem.covers (x y : ZoneItem) : Bool :=
  decide (x.base ≤ y.base ∧ y.base + 2 ^ y.span ≤ x.base + 2 ^ x.span)

/-- A zone item word: base in bits 0 to 9, span code in bits 10 and 11, the rest not read; aligned on receipt. -/
def itemOfWord (w : Nat) : ZoneItem :=
  ZoneItem.align ⟨w % 1024, w / 1024 % 4⟩

/-- A here item word of a POSE: absent when bits 0 to 11 are all set. -/
def hereItemOfWord (w : Nat) : Option ZoneItem :=
  if w % 4096 = 4095 then none else some (itemOfWord w)

def wordOfItem (it : ZoneItem) : Nat :=
  it.base % 1024 + it.span % 4 * 1024

def wordOfHere : Option ZoneItem → Nat
  | some it => wordOfItem it
  | none => 65535

/-! ### Codes -/

def LimitSource.code : LimitSource → Nat
  | .cap => 0 | .zone => 1 | .tag => 2 | .guide => 3 | .load => 4 | .showHold => 5 | .ride => 6 | .restraint => 7
  | .channel => 8 | .safety => 9

def FaultKind.code : FaultKind → Nat
  | .chainOpen => 1 | .overspeed => 2 | .overrun => 3 | .duplicateId => 4 | .positionConflict => 5 | .restraint => 6
  | .guideLost => 7 | .tagMiss => 8 | .txFail => 9 | .configBad => 10 | .contentBad => 11

def RunState.code : RunState → Nat
  | .loading => 0 | .inhibit => 1 | .run => 2

def BarState.code : BarState → Nat
  | .opened => 0 | .locked => 1 | .suspect => 2 | .fault => 3

/-! ### Frames received -/

def preamble : Byte := 0xA7#8

/-- The header of a frame, with its body's bytes. -/
structure RawFrame where
  source : Nat
  dest : Nat
  kind : Nat
  seq : Nat
  body : List Byte
  deriving DecidableEq, Repr

/-- A frame whose preamble, length and CRC are good (R20, R21). Bytes after the frame are ignored. -/
def goodFrame (bytes : List Byte) : Option RawFrame :=
  let len := byteAt bytes 5
  let covered := (bytes.drop 1).take (7 + len)
  if bytes.length ≥ 8 + len ∧ bytes.head? = some preamble ∧ len ≤ 40 ∧ crc16 covered = 0#16 then
    some ⟨byteAt bytes 1, byteAt bytes 2, byteAt bytes 3, byteAt bytes 4, (bytes.drop 6).take len⟩
  else none

/-- What the body of a received frame says, by its kind (02_the_ride_channel.md, "Frame kinds"). VERDICT and STATUS have no
owner in a receiving part, so nothing of their body is kept. -/
inductive RxBody where
  | pose (p : PoseBody)
  | cue (c : CueBody)
  | sync (scene clock : Nat)
  | check
  | verdict
  | dispatch
  | clearFaults (mask : Nat)
  | clearPeer (peer : Nat)
  | holdall
  | resume (recover : Bool)
  | query
  | status
  | restart
  deriving DecidableEq, Repr

/-- `n` zone item words from place `i` on, in order. -/
def itemsAt (bs : List Byte) (i : Nat) : Nat → List ZoneItem
  | 0 => []
  | n + 1 => itemOfWord (word16At bs i) :: itemsAt bs (i + 2) n

def parsePose (bs : List Byte) : Option PoseBody :=
  let n := byteAt bs 10 % 8
  let claimed := bitOf (byteAt bs 10) 3
  let flags := byteAt bs 8
  if bs.length ≥ 11 ∧ n ≤ 4 ∧ bs.length = 11 + 2 * n + (if claimed then 2 else 0) then
    some {
      here := hereItemOfWord (word16At bs 0)
      distance := word16At bs 2
      speed := word16At bs 4
      period := word16At bs 6
      isUnknown := bitOf flags 0
      isAdrift := bitOf flags 1
      isFault := bitOf flags 2
      isStopped := bitOf flags 3
      isRefused := bitOf flags 4
      binding := byteAt bs 9
      held := itemsAt bs 11 n
      claim := if claimed then some (itemOfWord (word16At bs (11 + 2 * n))) else none }
  else none

def parseCue (bs : List Byte) : Option CueBody :=
  let scene := byteAt bs 1
  if scene = 0 ∧ bs.length = 2 then some ⟨byteAt bs 0, none⟩
  else if 1 ≤ scene ∧ scene ≤ 15 ∧ bs.length = 6 then some ⟨byteAt bs 0, some (scene, word32At bs 2)⟩
  else none

def parseClear (bs : List Byte) : Option RxBody :=
  if byteAt bs 0 = 1 ∧ bs.length = 3 then some (.clearFaults (word16At bs 1))
  else if byteAt bs 0 = 2 ∧ bs.length = 2 then some (.clearPeer (byteAt bs 1))
  else none

def emptyBody (bs : List Byte) (b : RxBody) : Option RxBody :=
  if bs.length = 0 then some b else none

/-- The kind-and-length test of R23 with the Formats section's additions to it: the body of a frame of kind `kind`, or
nothing when the kind is none of the twelve or the body is not one that kind calls for. -/
def parseBody (kind : Nat) (bs : List Byte) : Option RxBody :=
  match kind with
  | 1 => (parsePose bs).map RxBody.pose
  | 2 => (parseCue bs).map RxBody.cue
  | 3 => if bs.length = 5 ∧ 1 ≤ byteAt bs 0 ∧ byteAt bs 0 ≤ 15 then some (.sync (byteAt bs 0) (word32At bs 1)) else none
  | 4 => emptyBody bs .check
  | 5 => if 2 ≤ bs.length ∧ bs.length ≤ 9 then some .verdict else none
  | 6 => emptyBody bs .dispatch
  | 7 => parseClear bs
  | 8 => emptyBody bs .holdall
  | 9 => if bs.length = 1 then some (.resume (bitOf (byteAt bs 0) 0)) else none
  | 10 => emptyBody bs .query
  | 11 => if bs.length = 40 then some .status else none
  | 12 => emptyBody bs .restart
  | _ => none

/-! ### Frames sent -/

def TxBody.kind : TxBody → Nat
  | .pose _ => 1
  | .cue _ => 2
  | .verdict _ _ => 5
  | .status _ => 11

/-- The class of a queued frame (02_the_ride_channel.md, 2.5). -/
def TxBody.cls : TxBody → Nat
  | .pose _ => 0
  | .verdict _ _ => 1
  | .status _ => 1
  | .cue _ => 2

def TxBody.isPose : TxBody → Bool
  | .pose _ => true
  | _ => false

def encodePose (p : PoseBody) : List Byte :=
  bytesOf16 (wordOfHere p.here) ++ bytesOf16 p.distance ++ bytesOf16 p.speed ++ bytesOf16 p.period ++
  [byteOf (bitValue p.isUnknown 0 + bitValue p.isAdrift 1 + bitValue p.isFault 2 + bitValue p.isStopped 3 +
      bitValue p.isRefused 4 + Config.unnamedBits 0 % 8 * 32),
    byteOf p.binding,
    byteOf (p.held.length % 8 + bitValue p.claim.isSome 3 + Config.unnamedBits 1 % 16 * 16)] ++
  p.held.flatMap (fun it => bytesOf16 (wordOfItem it)) ++
  (match p.claim with
    | some it => bytesOf16 (wordOfItem it)
    | none => [])

def encodeCue (c : CueBody) : List Byte :=
  match c.scene with
  | none => [byteOf c.cue, 0#8]
  | some (scene, time) => [byteOf c.cue, byteOf scene] ++ bytesOf32 time

def encodeVerdict (pass : Bool) (bars : List BarState) : List Byte :=
  byteOf (bitValue pass 0) :: bars.map (fun b => byteOf b.code)

/-- The fault set as the bits of STATUS: bit code − 1 for each kind. -/
def FaultSet.bits (f : FaultSet) : Nat :=
  bitValue f.chainOpen 0 + bitValue f.overspeed 1 + bitValue f.overrun 2 + bitValue f.duplicateId 3 +
  bitValue f.positionConflict 4 + bitValue f.restraint 5 + bitValue f.guideLost 6 + bitValue f.tagMiss 7 +
  bitValue f.txFail 8 + bitValue f.configBad 9 + bitValue f.contentBad 10

/-- The counters in the order of R165. -/
def Counters.inOrder (c : Counters) : List Nat :=
  [c.txDropped, c.txGiveUps, c.tagErrors, c.scanOverruns, c.curveBreaches, c.cuesLost, c.lateCues, c.missedCues] ++
  c.underruns.toList ++ [c.contentErrors]

def encodeStatus (b : StatusBody) : List Byte :=
  let firstCode := match b.first with
    | some (k, _) => k.code
    | none => 0
  let firstTime := match b.first with
    | some (_, t) => t
    | none => Config.absentFaultTime
  let part (i : Nat) : Nat := match b.underrun with
    | some u => if i = 0 then u.voice else if i = 1 then u.clip else u.block
    | none => Config.absentUnderrun i
  bytesOf16 (b.faults.bits + firstCode * 2048 + bitValue b.clamped 15) ++ bytesOf32 firstTime ++
  b.counters.inOrder.flatMap bytesOf16 ++ bytesOf16 b.configId ++ bytesOf16 b.contentVersion ++
  [byteOf (b.run.code + bitValue b.underrun.isSome 2 + part 0 % 4 * 8 + Config.unnamedBits 2 % 4 * 32 +
      part 1 / 256 % 2 * 128),
    byteOf (part 1)] ++ bytesOf16 (part 2)

def encodeBody : TxBody → List Byte
  | .pose p => encodePose p
  | .cue c => encodeCue c
  | .verdict pass bars => encodeVerdict pass bars
  | .status b => encodeStatus b

/-- The whole frame as it goes out: preamble, header, body, CRC most significant byte first (R20, R30). -/
def encodeFrame (source dest seq : Nat) (body : TxBody) : List Byte :=
  let payload := encodeBody body
  let covered := [byteOf source, byteOf dest, byteOf body.kind, byteOf seq, byteOf payload.length] ++ payload
  preamble :: covered ++ bytesOf16 (crc16 covered).toNat

/-! ### Tag records (R5) -/

/-- A cue mark of a tag: a cue number (0 = none) and a distance. -/
structure CueMark where
  cue : Nat
  distance : Nat
  deriving DecidableEq, Repr

/-- A tag record whose check byte is right, its items aligned and its caps in mm/s. -/
structure GoodTag where
  number : Nat
  here : ZoneItem
  next : ZoneItem
  boundary : Nat
  capHere : Nat
  capNext : Nat
  markA : CueMark
  markB : CueMark
  nextTag : Nat
  scene : Nat
  load : Bool
  deriving DecidableEq, Repr

/-- The check byte is 255 less the sum, modulo 256, of the first 19 bytes (R5). -/
def tagCheckHolds (bytes : Vector Byte 20) : Bool :=
  let bs := bytes.toList
  decide (byteAt bs 19 = 255 - ((bs.take 19).map BitVec.toNat).sum % 256)

def goodTag (bytes : Vector Byte 20) : Option GoodTag :=
  let bs := bytes.toList
  if tagCheckHolds bytes then
    some {
      number := word16At bs 0
      here := itemOfWord (word16At bs 2)
      next := itemOfWord (word16At bs 4)
      boundary := word16At bs 6
      capHere := byteAt bs 8 * 10
      capNext := byteAt bs 9 * 10
      markA := ⟨byteAt bs 10, word16At bs 11 % 4096⟩
      markB := ⟨byteAt bs 13, word16At bs 14 % 4096⟩
      nextTag := word16At bs 16
      scene := byteAt bs 18 % 16
      load := bitOf (byteAt bs 18) 7 }
  else none

/-! ### The configuration block (R161) -/

/-- A field brought into its range: 0 takes the default where there is one and the range excludes 0; otherwise a value
outside the range takes the nearer end. -/
def clampField (lo hi : Nat) (dflt : Option Nat) (v : Nat) : Nat :=
  match dflt with
  | some d => if v = 0 ∧ 0 < lo then d else max lo (min hi v)
  | none => max lo (min hi v)

/-- The ms of one unit for a scale code in bits 14 and 15: 1, 32 or 1,024. -/
def scaleOfCode (w : Nat) : Nat :=
  match w / 16384 % 4 with
  | 0 => 1
  | 1 => 32
  | _ => 1024

/-- The fields of a 64-byte block as they stand in it. -/
def rawConfig (bs : List Byte) : ConfigImage where
  configId := word16At bs 2
  vehicleId := byteAt bs 4
  restraintCount := byteAt bs 5
  vehicleLength := word16At bs 6
  stopMargin := word16At bs 8
  reactionTime := word16At bs 10
  serviceDecel := word16At bs 12
  acceleration := word16At bs 14
  crawlSpeed := word16At bs 16
  fullScale := word16At bs 18
  overspeedMargin := word16At bs 20
  announcePeriod := word16At bs 22
  claimWindow := byteAt bs 24
  lossTime := word16At bs 25 % 1024 * scaleOfCode (word16At bs 25)
  missTolerance := word16At bs 27
  encoderPitch := word16At bs 29
  encoderDivider := byteAt bs 31
  restraintScanPeriod := byteAt bs 32
  suspectTime := word16At bs 33
  lockThreshold := word16At bs 35
  latchPolarity := byteOf (byteAt bs 37)
  guideMinimum := word16At bs 38
  guideRange := byteAt bs 40
  guideLossTime := word16At bs 41
  steeringCentre := word16At bs 43
  steeringMinimum := word16At bs 45
  steeringMaximum := word16At bs 47
  kp := byteAt bs 49
  kd := byteAt bs 50
  slew := word16At bs 51
  masterGain := byteAt bs 53
  duck := byteAt bs 54
  spielClip := word16At bs 55
  spielRepeat := byteAt bs 57
  idleValue := word16At bs 58 % 1024
  idleScale := scaleOfCode (word16At bs 58)
  wakeValue := byteAt bs 60 % 32
  wakeScale := if bitOf (byteAt bs 60) 7 then 10 else 1
  effectFaults := byteOf (byteAt bs 61)

/-- Each field but the identities brought into its range; a loss time of 0 takes 2,048 ms, and one below four announce
periods takes exactly four (R161). -/
def clampConfig (c : ConfigImage) : ConfigImage :=
  let period := clampField 50 500 (some 100) c.announcePeriod
  let loss := if c.lossTime = 0 then 2048 else c.lossTime
  { c with
    restraintCount := clampField 1 8 (some 4) c.restraintCount
    vehicleLength := clampField 500 8000 (some 3000) c.vehicleLength
    stopMargin := clampField 0 2000 none c.stopMargin
    reactionTime := clampField 0 500 none c.reactionTime
    serviceDecel := clampField 100 2000 (some 800) c.serviceDecel
    acceleration := clampField 100 2000 (some 500) c.acceleration
    crawlSpeed := clampField 50 300 (some 150) c.crawlSpeed
    fullScale := clampField 1000 4000 (some 2500) c.fullScale
    overspeedMargin := clampField 50 500 (some 150) c.overspeedMargin
    announcePeriod := period
    claimWindow := clampField 2 10 (some 3) c.claimWindow
    lossTime := max loss (4 * period)
    missTolerance := clampField 100 2000 (some 500) c.missTolerance
    encoderPitch := clampField 100 2000 (some 500) c.encoderPitch
    encoderDivider := clampField 0 3 none c.encoderDivider
    restraintScanPeriod := clampField 50 200 (some 100) c.restraintScanPeriod
    suspectTime := clampField 100 1000 (some 300) c.suspectTime
    lockThreshold := clampField 0 4095 none c.lockThreshold
    guideMinimum := clampField 0 8190 none c.guideMinimum
    guideRange := clampField 10 200 none c.guideRange
    guideLossTime := clampField 100 2000 none c.guideLossTime
    steeringCentre := clampField 800 2200 none c.steeringCentre
    steeringMinimum := clampField 800 2200 none c.steeringMinimum
    steeringMaximum := clampField 800 2200 none c.steeringMaximum
    slew := clampField 1 1400 none c.slew
    spielClip := clampField 0 511 none c.spielClip
    spielRepeat := clampField 5 60 none c.spielRepeat
    wakeValue := clampField 1 31 none c.wakeValue }

/-- A good block: all 64 bytes read, CRC-16 zero over them, the marker 4A56, an identity of 1 to 31 (R161). -/
def configBlockGood (bs : List Byte) : Bool :=
  decide (bs.length = 64 ∧ crc16 bs = 0#16 ∧ word16At bs 0 = 0x4A56 ∧ 1 ≤ byteAt bs 4 ∧ byteAt bs 4 ≤ 31)

/-! ### The content flash (R120, R126) -/

/-- The check at start: its result, and the content version that STATUS reports. A header that breaks off, of fewer than 14
bytes, fails the check (notes/assumptions/21.md). That the version is 0 then, though the identifier may have been read and
matched, is the model's choice (DESIGN CHOICE, notes/assumptions/50.md). -/
def contentCheck (header clipDir cueDir : List Byte) : CheckResult × Nat :=
  let clipBlock := word16At header 6
  let cueBlock := word16At header 8
  if header.length ≥ 14 ∧ word32At header 0 = 0x4A563234 then
    (if 1 ≤ clipBlock ∧ clipBlock ≤ 32760 ∧ 1 ≤ cueBlock ∧ cueBlock ≤ 32752 ∧
        (clipBlock + 8 ≤ cueBlock ∨ cueBlock + 16 ≤ clipBlock) ∧
        clipDir.length = 4096 ∧ cueDir.length = 8160 ∧
        (crc32 (clipDir ++ cueDir)).toNat = word32At header 10
      then .pass else .bad, word16At header 4)
  else (.bad, 0)

def parseClipEntry (bs : List Byte) : ClipEntry :=
  ⟨word16At bs 0, word16At bs 2, word16At bs 4 % 512, bitOf (byteAt bs 6 * 256 + byteAt bs 7) 0⟩

def ClipEntry.usable (e : ClipEntry) : Bool :=
  decide (1 ≤ e.length ∧ e.start + e.length ≤ 32768 ∧ 1 ≤ e.last ∧ e.last ≤ 256)

/-- The action at place `i` of a cue entry, or nothing for a kind code the table does not name. -/
def parseAction (bs : List Byte) (i : Nat) : Option Action :=
  match byteAt bs i with
  | 1 =>
    let w := word16At bs (i + 2)
    some (.play (byteAt bs (i + 1)) (w % 512) (byteAt bs (i + 4)) (bitOf w 14) (bitOf w 15))
  | 2 => some (.stop (byteAt bs (i + 1)) (byteAt bs (i + 2)))
  | 3 => some (.pin (word16At bs (i + 1)))
  | 4 => some (.unpin (word16At bs (i + 1)))
  | 5 =>
    let b := byteAt bs (i + 1)
    some (.effect (b % 16) (b / 16 % 8) (word16At bs (i + 2)) (word16At bs (i + 4)))
  | 6 => some (.hold (word16At bs (i + 1)))
  | 7 => some .send
  | 8 => some (.arm (byteAt bs (i + 1)) (word16At bs (i + 2)))
  | _ => none

/-- `n` actions from place `i` on, six bytes each, or nothing when one of them is unusable. -/
def parseActions (bs : List Byte) (i : Nat) : Nat → Option (List Action)
  | 0 => some []
  | n + 1 =>
    match parseAction bs i, parseActions bs (i + 6) n with
    | some a, some rest => some (a :: rest)
    | _, _ => none

def parseCompare (n : Nat) : Option CompareType :=
  match n % 4 with
  | 0 => some .atMark
  | 1 => some .within
  | 2 => some .before
  | _ => none

def parseSecondary (n parameter : Nat) : Secondary :=
  match n % 4 with
  | 0 => .none
  | 1 => .slowerThan parameter
  | 2 => .sceneTime parameter
  | _ => .pathClear

/-- A cue directory entry, or nothing when it is unusable (R126): an action count of 1 to 4, and kinds that the table
names. -/
def parseCueEntry (bs : List Byte) : Option CueEntry :=
  let kinds := byteAt bs 0
  let count := byteAt bs 1 % 8
  if 1 ≤ count ∧ count ≤ 4 then
    match parseCompare kinds, parseActions bs 8 count with
    | some cmp, some acts =>
      some ⟨cmp, word16At bs 2, parseSecondary (kinds / 4) (word32At bs 4), bitOf kinds 4, acts⟩
    | _, _ => none
  else none

/-- The sample at place `j` of a block: 16 bits, signed, most significant byte first (notes/assumptions/9.md). -/
def sampleAt (data : BlockData) (j : Nat) : Int :=
  (BitVec.ofNat 16 (word16At data.toList (2 * j))).toInt

end Sys2Proof.Machine
end

