-- ==== Sys2Proof/Machine/Ops.lean ====
section
/-! DEFINITION. The operations several blocks share: the stop curve (R62, R63), the transmit queue (R26 to R28) with the
POSE that is built from the part as it stands (R17, R42, R43), and what every command has in common: the time that
passes before it, and the POSE at once that its changes may call for at its end (R45). -/

namespace Sys2Proof.Machine

/-- The outcome every command has: a next state. -/
abbrev Out := Host.Outcome State Fault Refusal

/-! ### The stop curve (R62, R63) -/

/-- The exact integer square root, one bit of the root at a time from bit `k − 1` down. Exact for every radicand below
4^k. -/
def rootBits (n : Nat) : Nat → Nat → Nat
  | 0, r => r
  | k + 1, r => if (r + 2 ^ k) * (r + 2 ^ k) ≤ n then rootBits n k (r + 2 ^ k) else rootBits n k r

def intRoot (n : Nat) : Nat :=
  rootBits n 32 0

/-- The reaction allowance, in mm: floor(v_m × t_r ÷ 1000) (R62 step 1). -/
def reactionAllowance (s : State) : Nat :=
  s.path.speed * s.cfg.reactionTime / 1000

/-- The clamped distance to `mark` less `margin` and the reaction allowance (R62 steps 2 and 3). -/
def curveDistance (s : State) (mark margin : Nat) : Nat :=
  min 65535 ((mark : Int) - margin - s.path.odometer - reactionAllowance s).toNat

/-- The value of the stop curve (R63). -/
def stopCurve (s : State) (mark margin vEnd : Nat) : Nat :=
  min 4000 (intRoot (vEnd * vEnd + 2 * s.cfg.serviceDecel * curveDistance s mark margin))

/-! ### What several blocks ask of each other -/

/-- An odometer value plus a distance, held at the value at which the odometer stops (00_scope.md). -/
def markAt (odometer distance : Nat) : Nat :=
  min 4294967295 (odometer + distance)

/-- "Standstill": a measured speed of 0 (R3). -/
def State.standing (s : State) : Bool :=
  s.path.speed == 0

/-- At least one restraint is in FAULT: the restraint stop is in force (R111). -/
def State.anyBarFault (s : State) : Bool :=
  s.restraints.bars.toList.any fun b => b.state == .fault

/-- The FAULT flag of POSE (R43). -/
def State.faultFlag (s : State) : Bool :=
  s.anyBarFault || s.governor.causes.any

/-- This vehicle holds `it` when some item of the hold list covers it (R36). -/
def State.holds (s : State) (it : ZoneItem) : Bool :=
  s.zone.hold.any fun h => h.item.covers it

def Neighbour.blocks (it : ZoneItem) (n : Neighbour) : Bool :=
  n.held.any (fun h => h.conflicts it) || n.claim.any (fun c => c.conflicts it)

/-- `it` conflicts with the blocked set: the held and claimed items of every entry that is not ABSENT (R41). -/
def State.isBlocked (s : State) (it : ZoneItem) : Bool :=
  s.zone.neighbours.toList.any fun n => n.any (Neighbour.blocks it)

def Claim.listening (c : Claim) : Bool :=
  match c.phase with
  | .waiting => false
  | .listen _ _ => true

/-! ### The transmit queue -/

/-- A frame in the queue that is not under transmission. -/
def TxFrame.displaceable (f : TxFrame) : Bool :=
  match f.status with
  | .onAir => false
  | _ => true

/-- Take the last element that satisfies `p` out of a list, if there is one. -/
def removeLast {α : Type} (p : α → Bool) : List α → Option (List α)
  | [] => none
  | x :: xs =>
    match removeLast p xs with
    | some ys => some (x :: ys)
    | none => if p x then some xs else none

def mapQueue (f : List TxFrame → List TxFrame) (s : State) : State :=
  { s with channel := { s.channel with queue := f s.channel.queue } }

/-- The youngest displaceable frame of class `k` leaves the queue. -/
def displace (k : Nat) (q : List TxFrame) : Option (List TxFrame) :=
  removeLast (fun f => f.displaceable && f.body.cls == k) q

/-- R28: a frame offered when no POSE replacement applies. -/
def placeFrame (dest : Nat) (body : TxBody) (s : State) : State :=
  let f : TxFrame := ⟨dest, body, 0, none, .queued⟩
  if s.channel.queue.length < 6 then mapQueue (fun q => q ++ [f]) s
  else
    let second := match body.cls with
      | 0 => displace 1 s.channel.queue
      | _ => none
    let first := match body.cls with
      | 2 => none
      | _ => displace 2 s.channel.queue
    match first, second with
    | some q, _ => countTxDropped (mapQueue (fun _ => q ++ [f]) s)
    | none, some q => countTxDropped (mapQueue (fun _ => q ++ [f]) s)
    | none, none => countTxDropped s

/-- The queued POSE takes the new POSE's content in place: age, attempt count and retry wait stay, and it is new content
for its sequence number (R25, R27). -/
def replacePose (p : PoseBody) (q : List TxFrame) : List TxFrame :=
  q.map fun f => if f.body.isPose then { f with body := .pose p, seq := none } else f

/-- A frame offered to the queue; nothing is placed outside RUN (R26 to R28). -/
def offerFrame (dest : Nat) (body : TxBody) (s : State) : State :=
  if s.startUp.run = .run then
    match body with
    | .pose p =>
      match s.channel.queue.find? fun f => f.body.isPose with
      | some f =>
        if f.displaceable then mapQueue (replacePose p) s
        else { s with channel := { s.channel with pendingPose := some p } }
      | none => placeFrame dest body s
    | _ => placeFrame dest body s
  else s

/-- The distance to the next boundary that POSE carries (R17). -/
def poseDistance (s : State) : Nat :=
  match s.path.window.bind PathWindow.next with
  | some n => min 65535 (n.mark - s.path.odometer)
  | none => 65535

/-- The POSE of the part as it stands (R17, R42, R43). -/
def buildPose (s : State) : PoseBody where
  here := s.path.window.map PathWindow.here
  distance := poseDistance s
  speed := s.path.speed
  period := s.cfg.announcePeriod
  isUnknown := s.path.pos == .unknown
  isAdrift := s.path.pos == .adrift
  isFault := s.faultFlag
  isStopped := s.standing
  isRefused := s.zone.refusedPending
  binding := s.governor.limits.binding.code
  held := s.zone.hold.map HeldItem.item
  claim := (s.zone.claim.filter Claim.listening).map Claim.item

def offerPose (s : State) : State :=
  offerFrame 0 (.pose (buildPose s)) s

/-! ### What every command has in common -/

/-- `dt` microseconds pass. -/
def advance (dt : Nat) (s : State) : State :=
  { s with nowUs := s.nowUs + dt }

/-- What a POSE at once reports a change of: the hold list, the claim with its phase, the position state, the two conditions
of the FAULT flag and the STOPPED flag (R43, R45). -/
structure PoseKey where
  hold : List ZoneItem
  claim : Option (ZoneItem × Bool)
  pos : PositionState
  safetyStop : Bool
  restraintStop : Bool
  stopped : Bool
  deriving DecidableEq, Repr

def poseKey (s : State) : PoseKey where
  hold := s.zone.hold.map HeldItem.item
  claim := s.zone.claim.map fun c => (c.item, c.listening)
  pos := s.path.pos
  safetyStop := s.governor.causes.any
  restraintStop := s.anyBarFault
  stopped := s.standing

/-- Nothing has changed but that a restraint stop ended while a safety stop is in force: FAULT stays set, and R111 has no
POSE offered for it. -/
def PoseKey.endsUnseen (before after : PoseKey) : Bool :=
  after.safetyStop && before == { after with restraintStop := true }

/-- The end of an event: one POSE is offered when the event has changed what R45 lists, built after all its effects. That
holds for a warm reset too: one that changes nothing of the list, the position state being UNKNOWN before, offers no POSE,
where R59 can be read either way (DESIGN CHOICE, notes/assumptions/33.md). A POSE is offered as well at the start and at the
end of a safety stop while a restraint is in FAULT (R71, R79) and at the start of a restraint stop during a safety stop (R111),
though the FAULT flag is set before and after and R43 and R45 ask for none (DESIGN CHOICE, notes/assumptions/46.md). -/
def settle (before after : State) : State :=
  if poseKey before = poseKey after ∨ (poseKey before).endsUnseen (poseKey after) = true then after else offerPose after

/-- One event, whole: `dt` passes, `f` happens, and the POSE at once follows. -/
def event (dt : Nat) (f : State → State) (s : State) : Out :=
  .next (settle (advance dt s) (f (advance dt s)))

end Sys2Proof.Machine
end

