-- ==== Sys2Proof/Machine/Content.lean ====
section
/-! DEFINITION. The Content Reader's queue (08_content_memory.md, 8.3 and 8.4): offering a request, withdrawing a
requester, and choosing the request to serve. What a finished read delivers is in Delivery.lean. -/

namespace Sys2Proof.Machine

def ContentState.isDisabled (c : ContentState) : Bool :=
  c.check == .bad

/-- The show is disabled: the content check is BAD (R121, R142, R160). -/
def State.showDisabled (s : State) : Bool :=
  s.content.isDisabled

def withContent (c : ContentState) (s : State) : State :=
  { s with content := c }

/-- The class that a requester gives a request (8.3). -/
def classOf (r : Requester) (t : Target) : Nat :=
  match t with
  | .clipEntry _ => 4
  | .cueEntry _ => 2
  | .block _ =>
    match r with
    | .voice v => if v = 0 then 1 else 3
    | .pin _ => 5
    | .record _ _ => 2

/-- The best class among a request's requesters (R122). -/
def ReadRequest.cls (q : ReadRequest) : Nat :=
  q.waiters.foldl (fun k w => min k (classOf w.who q.target)) 6

def names (r : Requester) (ws : List Waiter) : Bool :=
  ws.any fun w => w.who == r

/-! ### Serving (R125) -/

/-- The request of class `k` that entered its class first, among those that satisfy `p`. -/
def oldestOf (p : ReadRequest → Bool) (k : Nat) (qs : List ReadRequest) : Option ReadRequest :=
  qs.foldl (fun best q =>
    if q.cls == k && p q then
      match best with
      | some b => if q.entered < b.entered then some q else some b
      | none => some q
    else best) none

/-- The voices in the order of their turn in class 3, counted on in a ring from the voice last served. -/
def turnsAfter (last : Nat) : List Nat :=
  [last % 3 + 1, (last + 1) % 3 + 1, (last + 2) % 3 + 1]

/-- The class-3 request whose turn it is, with the voice that is then the voice last served. -/
def classThree (last : Nat) (qs : List ReadRequest) : Option (ReadRequest × Nat) :=
  (turnsAfter last).findSome? fun v =>
    (oldestOf (fun q => names (.voice v) q.waiters) 3 qs).map fun q => (q, v)

/-- The request to serve, with the voice last served after it. -/
def chooseRead (last : Nat) (qs : List ReadRequest) : Option (ReadRequest × Nat) :=
  match oldestOf (fun _ => true) 1 qs with
  | some q => some (q, last)
  | none =>
    match oldestOf (fun _ => true) 2 qs with
    | some q => some (q, last)
    | none =>
      match classThree last qs with
      | some r => some r
      | none =>
        match oldestOf (fun _ => true) 4 qs with
        | some q => some (q, last)
        | none => (oldestOf (fun _ => true) 5 qs).map fun q => (q, last)

/-- How long a read takes, in µs: a block 200, a directory entry 20 (R125). -/
def readTime : Target → Nat
  | .block _ => 200
  | .clipEntry _ => 20
  | .cueEntry _ => 20

/-- An IDLE Content Reader with a request waiting starts a read (R125). -/
def startRead (s : State) : State :=
  match s.content.reader with
  | .idle =>
    match chooseRead s.content.lastVoice s.content.queue with
    | some (q, v) =>
      withContent { s.content with
        reader := .reading q.target q.waiters (s.nowUs + readTime q.target)
        queue := s.content.queue.filter fun p => p.target != q.target
        lastVoice := v } s
    | none => s
  | _ => s

/-! ### Offering and withdrawing (R122 to R124) -/

/-- A requester joins a queued request; a better class moves the request there as if it had entered it now (R123). -/
def joinRequest (w : Waiter) (q : ReadRequest) : ReadRequest :=
  if names w.who q.waiters then q
  else { q with
    waiters := q.waiters ++ [w]
    entered := if classOf w.who q.target < q.cls then w.serial else q.entered }

/-- A requester joins the read in flight, unless it is named on it already. -/
def joinWaiters (w : Waiter) (ws : List Waiter) : List Waiter :=
  if names w.who ws then ws else ws ++ [w]

/-- A request is offered to the Content Reader (R122); the answer says whether it was taken. A Content Reader that is
DISABLED or whose check is not made yet refuses without a count (R121, R127). While a finished read is delivered no read is
in flight, so that an offer of its target, by a requester not yet delivered to as well, joins or places another request
(DESIGN CHOICE for that requester, notes/assumptions/38.md). -/
def offerRead (r : Requester) (t : Target) (s : State) : State × Bool :=
  if s.startUp.run = .run ∧ s.content.check = .pass then
    let w : Waiter := ⟨r, s.content.serial⟩
    let c := { s.content with serial := s.content.serial + 1 }
    let queued : State × Bool :=
      if c.queue.any fun q => q.target == t then
        (withContent { c with queue := c.queue.map fun q => if q.target == t then joinRequest w q else q } s, true)
      else if c.queue.length < 96 then
        (startRead (withContent { c with queue := c.queue ++ [⟨t, [w], w.serial⟩] } s), true)
      else (countContentError s, false)
    match c.reader with
    | .reading target waiters doneUs =>
      if target = t then (withContent { c with reader := .reading target (joinWaiters w waiters) doneUs } s, true)
      else queued
    | _ => queued
  else (s, false)

/-- What is left of a request when `r` has gone away: a worse best class is entered with the serial number at which its
first remaining requester of that class was named (R124). -/
def leaveRequest (r : Requester) (q : ReadRequest) : Option ReadRequest :=
  if names r q.waiters then
    let rest := { q with waiters := q.waiters.filter fun w => w.who != r }
    match rest.waiters with
    | [] => none
    | _ :: _ =>
      if q.cls < rest.cls then
        match rest.waiters.find? fun w => classOf w.who q.target == rest.cls with
        | some w => some { rest with entered := w.serial }
        | none => some rest
      else some rest
  else some q

/-- A requester is removed from every queued request, from the read in flight and from the deliveries still to be made
(R124). -/
def withdraw (r : Requester) (s : State) : State :=
  let without (ws : List Waiter) := ws.filter fun w => w.who != r
  withContent { s.content with
    queue := s.content.queue.filterMap (leaveRequest r)
    reader := match s.content.reader with
      | .reading t ws d => .reading t (without ws) d
      | .delivering ws => .delivering (without ws)
      | .idle => .idle } s

/-- A finished read's requesters in the order of delivery: by class, and within a class in the order they joined
(R126). -/
def deliveryOrder (t : Target) (ws : List Waiter) : List Waiter :=
  [1, 2, 3, 4, 5].flatMap fun k => ws.filter fun w => classOf w.who t == k

end Sys2Proof.Machine
end

