-- ==== Sys2Proof/Machine/Sound.lean ====
section
/-! DEFINITION. The Sound Engine (10_sound.md): voices, the clip cache with its wants, pins, scene lock, the mixer and
the amplifier, and the commands OUTPUT_PERIOD, FADE_END, LOCKED_VOICE_TICK, IDLE_TIMER_EXPIRY and WAKE_TIMER_EXPIRY.
Where one rule asks for several things of several voices, they are taken in voice order. -/

namespace Sys2Proof.Machine

def withSound (x : SoundState) (s : State) : State :=
  { s with sound := x }

def voiceOf (s : State) (v : Nat) : Voice :=
  s.sound.voices.getD v Voice.clear

def setVoice (v : Nat) (x : Voice) (s : State) : State :=
  withSound { s.sound with voices := s.sound.voices.setIfInBounds v x } s

def showVoices : List Nat := [1, 2, 3]

def allVoices : List Nat := [0, 1, 2, 3]

def quiet (x : Voice) : Bool :=
  x.state == .idle || x.state == .paused

/-- Clip sample count N (10.1). -/
def ClipEntry.samples (e : ClipEntry) : Nat :=
  (e.length - 1) * 256 + e.last

/-! ### The cache (R149, R151) -/

def cacheSet (s : State) (i : Nat) : CacheSet :=
  s.sound.cache.getD i CacheSet.reset

def setCacheSet (i : Nat) (c : CacheSet) (s : State) : State :=
  withSound { s.sound with cache := s.sound.cache.setIfInBounds i c } s

def setOf (b : Nat) : Nat := b % 32

def allWays : List Nat := [0, 1, 2, 3]

def allSets : List Nat := List.range 32

/-- The lock flag of a way: set while a pin holds it (R149, R153). -/
def wayLocked (s : State) (w : Nat) : Bool :=
  (s.sound.pins.getD w none).isSome

def CacheSet.slot (c : CacheSet) (w : Nat) : Slot :=
  c.ways.getD w .invalid

/-- A slot becomes the most recently used of its set. -/
def CacheSet.touch (c : CacheSet) (w : Nat) : CacheSet :=
  { c with order := c.order.filter (fun x => x != w) ++ [w] }

def CacheSet.putSlot (c : CacheSet) (w : Nat) (x : Slot) : CacheSet :=
  { c with ways := c.ways.setIfInBounds w x }

def Slot.isFilling (b : Nat) : Slot → Bool
  | .filling x => x == b
  | _ => false

def Slot.isAnyFilling : Slot → Bool
  | .filling _ => true
  | _ => false

def Slot.holding (b : Nat) : Slot → Option BlockData
  | .valid x d => if x = b then some d else none
  | _ => none

/-- The data of a resident block, with the way it stands in: the block is VALID in its set. Two ways may hold it, both locked
(two pinned clips that share it), one locked, or both unlocked; R149 does not say which of them a voice takes it from, and the
model takes the lower-numbered one (DESIGN CHOICE, notes/assumptions/36.md). -/
def residentIn (s : State) (b : Nat) : Option (Nat × BlockData) :=
  allWays.findSome? fun w => (((cacheSet s (setOf b)).slot w).holding b).map fun d => (w, d)

def isResident (s : State) (b : Nat) : Bool :=
  (residentIn s b).isSome

/-- A slot of the block's set is FILLING it. -/
def isFillingBlock (s : State) (b : Nat) : Bool :=
  allWays.any fun w => ((cacheSet s (setOf b)).slot w).isFilling b

/-- The way a voice reserves in a set: the lowest unlocked INVALID one, or the least recently used unlocked VALID one
(R150 step 1). -/
def reservable (s : State) (c : CacheSet) : Option Nat :=
  match allWays.find? fun w => !wayLocked s w && c.slot w == .invalid with
  | some w => some w
  | none => c.order.find? fun w => !wayLocked s w && !(c.slot w).isAnyFilling

/-- Change every slot of the cache by its set, its way and what it holds. -/
def mapSlots (f : Nat → Nat → Slot → Slot) (s : State) : State :=
  withSound { s.sound with cache := Vector.ofFn fun i : Fin 32 =>
    { s.sound.cache[i] with ways := Vector.ofFn fun w : Fin 4 => f i.val w.val s.sound.cache[i].ways[w] } } s

/-- A delivered block is written into every slot of its set that is FILLING it, each then VALID and most recently used.
When it stands in a locked way, its copies in unlocked ways become INVALID (R151). Two slots that fill are touched in the
order of their ways, so the higher one ends most recently used (DESIGN CHOICE, notes/assumptions/40.md). -/
def writeBlock (b : Nat) (data : BlockData) (s : State) : State :=
  let c := cacheSet s (setOf b)
  let filled := allWays.foldl (fun c w =>
    if (c.slot w).isFilling b then (c.putSlot w (.valid b data)).touch w else c) c
  let pinned := allWays.any fun w => wayLocked s w && ((filled.slot w).holding b).isSome
  let final := if pinned then
      allWays.foldl (fun c w =>
        if !wayLocked s w && ((c.slot w).holding b).isSome then c.putSlot w .invalid else c) filled
    else filled
  setCacheSet (setOf b) final s

/-! ### Scene lock (R156) -/

/-- The scene time now of a scene with a valid clock (R128). -/
def sceneTime (s : State) (scene : Nat) : Option Nat :=
  if scene = 0 then none
  else
    match s.cues.clocks[scene - 1]? with
    | some c => if c.valid then some ((c.value + s.elapsedSince c.receipt) % 4294967296) else none
    | none => none

/-- The expected position of a voice that is locked to a valid scene, in samples (R156); for a voice with loop, modulo
the clip's sample count. -/
def expectedPosition (s : State) (x : Voice) : Option Int :=
  match x.lock with
  | none => none
  | some l =>
    match sceneTime s l.scene with
    | none => none
    | some t =>
      let e : Int := ((t : Int) - l.start) * 24
      match x.entry with
      | some c => if x.loop then some (e % c.samples) else some e
      | none => some e

/-- The start position of a voice in STARTING: the expected position of a locked voice, otherwise the position it holds
(R145, R156). -/
def startPosition (s : State) (x : Voice) : Int :=
  (expectedPosition s x).getD x.position

/-- The clip block that holds the start position, or sample 0 before the start time. -/
def startBlockOf (s : State) (x : Voice) : Nat :=
  (startPosition s x).toNat / 256

/-! ### Wants (R150) -/

/-- The clip block after block `k`: block 0 follows the last block of a clip that loops. -/
def blockAfter (e : ClipEntry) (loop : Bool) (k : Nat) : Option Nat :=
  if k + 1 < e.length then some (k + 1) else if loop then some 0 else none

def twoAfter (e : ClipEntry) (loop : Bool) (k : Nat) : List Nat :=
  match blockAfter e loop k with
  | none => []
  | some a => a :: (blockAfter e loop a).toList

/-- The clip blocks a voice wants, nearest first: in STARTING the start block and the two after it; in PLAYING or
STOPPING the two after the play-buffer block, and before them the needed block while the voice waits (R150, R152). -/
def wantedBlocks (s : State) (x : Voice) : List Nat :=
  match x.entry with
  | none => []
  | some e =>
    match x.state with
    | .starting => startBlockOf s x :: twoAfter e x.loop (startBlockOf s x)
    | .playing | .stopping =>
      (if x.waiting then [x.position / 256] else []) ++
        (match x.buffer with
          | some p => twoAfter e x.loop p.block
          | none => [])
    | _ => []

/-- The flash blocks voice `v` wants, nearest first, each once. -/
def wants (s : State) (v : Nat) : List Nat :=
  let x := voiceOf s v
  ((wantedBlocks s x).map fun k => (x.entry.elim 0 ClipEntry.start) + k).eraseDups

/-- Take one wanted block: reserve a slot unless one is FILLING it, and offer its request (R150 steps 1 to 3). A slot that
is reserved and then refused is INVALID again, and no other voice upkeeps for it (DESIGN CHOICE,
notes/assumptions/41.md). -/
def upkeepBlock (v : Nat) (s : State) (b : Nat) : State :=
  if isResident s b then s
  else if isFillingBlock s b then (offerRead (.voice v) (.block b) s).1
  else
    let c := cacheSet s (setOf b)
    match reservable s c with
    | none => s
    | some w =>
      let r := offerRead (.voice v) (.block b) (setCacheSet (setOf b) ((c.putSlot w (.filling b)).touch w) s)
      if r.2 then r.1
      else setCacheSet (setOf b) ((cacheSet r.1 (setOf b)).putSlot w .invalid) r.1

/-- A voice upkeeps its wants. -/
def upkeep (v : Nat) (s : State) : State :=
  (wants s v).foldl (upkeepBlock v) s

/-- A want that waits without a slot. -/
def unreserved (s : State) (b : Nat) : Bool :=
  !isResident s b && !isFillingBlock s b

/-- Whether a slot of set `i` that was FILLING in `before` no longer is in `after`. -/
def leftFilling (before after : State) (i : Nat) : Bool :=
  allWays.any fun w => ((cacheSet before i).slot w).isAnyFilling &&
    ((cacheSet before i).slot w != (cacheSet after i).slot w)

/-- When slots of a set have left FILLING, each voice with a want of that set that waits unreserved upkeeps (R150). -/
def afterFilling (before after : State) : State :=
  allVoices.foldl (fun s v =>
    if (wants s v).any (fun b => unreserved s b && leftFilling before after (setOf b)) then upkeep v s else s) after

/-- Each slot FILLING in an unlocked way that no voice now wants becomes INVALID (R150, "releases its wants"). -/
def releaseUnwanted (s : State) : State :=
  let wanted := allVoices.flatMap (wants s)
  let s' := mapSlots (fun _ w x =>
    match x with
    | .filling b => if !wayLocked s w && !wanted.contains b then .invalid else x
    | _ => x) s
  afterFilling s s'

/-! ### The amplifier (R159) -/

def withAmp (a : Amplifier) (s : State) : State :=
  withSound { s.sound with amp := a } s

def idleThreshold (c : ConfigImage) : Nat :=
  c.idleValue * c.idleScale

def wakeTime (c : ConfigImage) : Nat :=
  c.wakeValue * c.wakeScale

/-- ACTIVE with every voice IDLE or PAUSED goes to MUTED, and on to STANDBY at once for an idle threshold of 0. -/
def ampSettle (s : State) : State :=
  if s.sound.amp = .active ∧ s.sound.voices.toList.all quiet then
    if idleThreshold s.cfg = 0 then withAmp .standby s
    else withAmp (.muted (s.afterMs (idleThreshold s.cfg))) s
  else s

/-! ### Voices -/

/-- The voice becomes IDLE: it withdraws from every request and releases its wants (R146). -/
def toIdle (v : Nat) (s : State) : State :=
  ampSettle (releaseUnwanted (setVoice v Voice.clear (withdraw (.voice v) s)))

/-- The voice takes a resident clip block into its play buffer (R149); of two slots that hold it the lower-numbered way counts
as used (DESIGN CHOICE, notes/assumptions/36.md). -/
def takeBlock (v k : Nat) (s : State) : Option State :=
  let x := voiceOf s v
  let b := x.entry.elim 0 ClipEntry.start + k
  (residentIn s b).map fun (w, d) =>
    setVoice v { x with buffer := some ⟨k, d⟩, waiting := false }
      (setCacheSet (setOf b) ((cacheSet s (setOf b)).touch w) s)

/-- A clip without loop that the start position has run past (R156). -/
def pastEnd (s : State) (x : Voice) (e : ClipEntry) : Bool :=
  !x.loop && decide ((e.samples : Int) ≤ startPosition s x)

/-- A voice in STARTING enters PLAYING when every condition of R145 holds: the entry is present, the start block resident,
the amplifier ACTIVE and the expected position 0 or more, and short of the end of a clip without loop (R156). -/
def enterPlaying (v : Nat) (s : State) : State :=
  let x := voiceOf s v
  match x.state, x.entry with
  | .starting, some e =>
    let p := startPosition s x
    if s.sound.amp = .active ∧ 0 ≤ p ∧ pastEnd s x e = false then
      (takeBlock v (startBlockOf s x)
        (setVoice v { x with state := .playing, position := p.toNat, startBlock := none } s)).getD s
    else s
  | _, _ => s

/-- What the tests of R145 do to a voice that stays in STARTING: IDLE when a clip without loop is past its end (R156), and
an upkeep when the start block is not resident (R150). -/
def stayStarting (v : Nat) (s : State) : State :=
  let x := voiceOf s v
  match x.state, x.entry with
  | .starting, some e =>
    if pastEnd s x e then toIdle v s
    else if isResident s (e.start + startBlockOf s x) then s
    else upkeep v s
  | _, _ => s

/-- Every voice in STARTING is tested (R145): each that may play plays before the upkeep of any other can evict its block. -/
def testStarts (s : State) : State :=
  allVoices.foldl (fun s v => stayStarting v s) (allVoices.foldl (fun s v => enterPlaying v s) s)

/-- Entering STARTING is a voice start (R159): MUTED becomes ACTIVE, STANDBY becomes WAKING. -/
def voiceStart (s : State) : State :=
  match s.sound.amp with
  | .muted _ => testStarts (withAmp .active s)
  | .standby => withAmp (.waking (s.afterMs (wakeTime s.cfg))) s
  | _ => s

/-- A voice in STARTING whose start block is no longer the one its wants were last upkept for (R150, R156). -/
def startMoved (s : State) (v : Nat) : Bool :=
  let x := voiceOf s v
  match x.state, x.entry with
  | .starting, some e => !pastEnd s x e && x.startBlock != some (startBlockOf s x)
  | _, _ => false

/-- The start block of a voice in STARTING is kept as the one its wants are now upkept for. -/
def noteStart (v : Nat) (s : State) : State :=
  let x := voiceOf s v
  match x.state with
  | .starting => setVoice v { x with startBlock := some (startBlockOf s x) } s
  | _ => s

/-- Voices in STARTING work out their start blocks and are tested: each that may play plays, then a change of the block
upkeeps a voice's wants, and the others end or upkeep as R145 has it (R145, R150, R156). A change of the block and a test
that finds it not resident are one upkeep (DESIGN CHOICE, notes/assumptions/43.md). -/
def reworkStarts (vs : List Nat) (s : State) : State :=
  let moved := vs.filter (startMoved s)
  vs.foldl (fun s v => if moved.contains v then upkeep v (noteStart v s) else stayStarting v s)
    (vs.foldl (fun s v => enterPlaying v s) s)

/-- A voice is put in STARTING, which is a voice start (R144, R148). -/
def putStarting (v : Nat) (s : State) : State :=
  let s := voiceStart s
  setVoice v { voiceOf s v with state := .starting } s

/-- A voice in STARTING without its clip entry asks for it; refused, it becomes IDLE (R144, R145). -/
def askEntry (v : Nat) (s : State) : State :=
  let x := voiceOf s v
  match x.state, x.entry with
  | .starting, none =>
    let r := offerRead (.voice v) (.clipEntry x.clip) s
    if r.2 then r.1 else toIdle v r.1
  | _, _ => s

/-- Voices enter STARTING with the records they have: a voice start each, then the upkeep of the wants of those whose entry
is present, and the entry requests of the others (R144, R145, R148). -/
def enterStarting (vs : List Nat) (s : State) : State :=
  vs.foldl (fun s v => askEntry v s) (reworkStarts vs (vs.foldl (fun s v => putStarting v s) s))

/-- A start request (R144). It is ignored while the Sound Engine is disabled and outside RUN. -/
def startVoice (v clip gain : Nat) (loop : Bool) (lock : Option SceneLock) (s : State) : State :=
  if s.startUp.run = .run ∧ s.showDisabled = false then
    let fresh : Voice := { Voice.clear with
      clip := clip
      gain := gain
      loop := loop && v != 0
      lock := lock
      state := if v != 0 && s.sound.paused then .paused else .starting }
    let s := releaseUnwanted (setVoice v fresh (withdraw (.voice v) s))
    match fresh.state with
    | .starting => enterStarting [v] s
    | _ => ampSettle s
  else s

/-- A STOP (R147). -/
def stopVoice (v fade : Nat) (s : State) : State :=
  let x := voiceOf s v
  match x.state with
  | .idle => s
  | .starting | .paused => toIdle v s
  | .playing =>
    if fade = 0 then toIdle v s
    else setVoice v { x with state := .stopping, fade := some ⟨fade, s.rideCount⟩ } s
  | .stopping => if fade = 0 then toIdle v s else s

/-- What a pause makes of one voice's record (R148). -/
def pausedVoice (x : Voice) : Voice :=
  match x.state with
  | .starting | .playing =>
    { x with state := .paused, buffer := none, trim := none, jump := false, waiting := false, startBlock := none }
  | .stopping => Voice.clear
  | _ => x

/-- The Cue Engine asks for voices 1 to 3 to be paused (R148). -/
def pauseVoices (s : State) : State :=
  if s.sound.paused then s
  else
    let s := withSound { s.sound with paused := true } s
    let s := showVoices.foldl (fun s v => setVoice v (pausedVoice (voiceOf s v)) (withdraw (.voice v) s)) s
    ampSettle (releaseUnwanted s)

/-- The Cue Engine asks for voices 1 to 3 to resume (R148). -/
def resumeVoices (s : State) : State :=
  if s.sound.paused then
    let s := withSound { s.sound with paused := false } s
    enterStarting (showVoices.filter fun v => (voiceOf s v).state == .paused) s
  else s

/-! ### Output, block boundaries and drift (R146, R152, R157) -/

/-- The effective gain: in STOPPING, floor(gain × remaining ÷ fade length) (R147). -/
def effectiveGain (s : State) (x : Voice) : Nat :=
  match x.state, x.fade with
  | .stopping, some f => x.gain * (f.length - (s.rideCount - f.beganMs)) / f.length
  | _, _ => x.gain

def sounding (x : Voice) : Bool :=
  (x.state == .playing || x.state == .stopping) && !x.waiting

/-- A voice's contribution, floor(s × g ÷ 128), or 0 when it does not contribute (R158). -/
def contribution (s : State) (x : Voice) : Int :=
  if sounding x then
    match x.buffer with
    | some p => sampleAt p.data (x.position % 256) * effectiveGain s x / 128
    | none => 0
  else 0

def clampSample (n : Int) : Int :=
  max (-32768) (min 32767 n)

/-- The mixer's sample (R158). -/
def mixed (s : State) : Int :=
  let ducked (v : Nat) : Int :=
    let c := contribution s (voiceOf s v)
    if (voiceOf s 0).state = .playing then c * s.cfg.duck / 128 else c
  clampSample ((contribution s (voiceOf s 0) + ducked 1 + ducked 2 + ducked 3) * s.cfg.masterGain / 128)

/-- What goes out on I²S: the mixer's sample while the amplifier is ACTIVE in RUN, otherwise 0 (R158). -/
def outputSample (s : State) : Int :=
  if s.startUp.run = .run ∧ s.sound.amp = .active then mixed s else 0

/-- The needed block of voice `v` is taken when it is resident; otherwise the voice underruns (R146 step 3, R152). The
voice then upkeeps its wants (R146 step 4). -/
def takeNeeded (v : Nat) (s : State) : State :=
  let x := voiceOf s v
  let k := x.position / 256
  match takeBlock v k s with
  | some s => upkeep v s
  | none =>
    let s := countUnderrun v (setVoice v { x with waiting := true } s)
    upkeep v (withSound { s.sound with underrun := some ⟨v, x.clip, k⟩ } s)

/-- A locked voice whose start time lies ahead again returns to STARTING (R157). -/
def backToStarting (v : Nat) (s : State) : State :=
  let x := voiceOf s v
  enterStarting [v] (releaseUnwanted
    (setVoice v { x with
      state := .starting, buffer := none, trim := none, jump := false, waiting := false, fade := none,
      startBlock := none }
      (withdraw (.voice v) s)))

/-- A pending jump is applied (R157): the expected position is worked out anew. -/
def applyJump (v : Nat) (s : State) : State :=
  let x := voiceOf s v
  match expectedPosition s x, x.entry with
  | some p, some e =>
    if !x.loop ∧ p < 0 then backToStarting v s
    else if !x.loop ∧ (e.samples : Int) ≤ p then toIdle v s
    else takeNeeded v (setVoice v { x with position := p.toNat, jump := false, trim := none } s)
  | _, _ => takeNeeded v (setVoice v { x with jump := false } s)

/-- The voice stands at a block boundary, `next` being the position after the block's last sample (R146). A skip from the last
sample of the block before a last block of one sample passes the end of the clip as well, though the block passed is not the
clip's last: step 1 is taken then too, the voice becoming IDLE without loop and taking position 0 with it (DESIGN CHOICE,
notes/assumptions/52.md). -/
def blockBoundary (v next : Nat) (s : State) : State :=
  let x := voiceOf s v
  match x.entry with
  | none => toIdle v s
  | some e =>
    if e.samples ≤ next ∧ x.loop = false then toIdle v s
    else
      let s := setVoice v { x with position := if e.samples ≤ next then 0 else next } s
      if x.jump then applyJump v s else takeNeeded v s

/-- The trim after one more sample, and by how much the position advances: by 0 for a repeated sample and by 2 for a
skipped one, at every 64th sample since the trim was set (R157). That the 64th sample itself goes out as it is, and the repeat
or the skip comes right after it, is the model's choice (DESIGN CHOICE, notes/assumptions/49.md). -/
def trimStep (t : Option Trim) : Option Trim × Nat :=
  match t with
  | none => (none, 1)
  | some t =>
    if (t.outputs + 1) % 64 = 0 then
      (if t.remaining ≤ 1 then none else some ⟨t.drop, t.remaining - 1, t.outputs + 1⟩, if t.drop then 2 else 0)
    else (some { t with outputs := t.outputs + 1 }, 1)

/-- A sounding voice has output its present sample and advances (R146). -/
def advanceVoice (s : State) (v : Nat) : State :=
  let x := voiceOf s v
  if sounding x then
    match x.buffer, x.entry with
    | some p, some e =>
      let (trim, step) := trimStep x.trim
      let next := x.position + step
      let s := setVoice v { x with trim := trim, position := next } s
      if min ((p.block + 1) * 256) e.samples ≤ next then blockBoundary v next s else s
    | _, _ => s
  else s

/-- The test of R157 at a SYNC for the scene of a locked voice in PLAYING. -/
def driftTest (v : Nat) (s : State) : State :=
  let x := voiceOf s v
  match expectedPosition s x, x.entry with
  | some p, some e =>
    if !x.loop ∧ p < 0 then backToStarting v s
    else if !x.loop ∧ (e.samples : Int) ≤ p then toIdle v s
    else
      let raw : Int := x.position - p
      let n : Int := e.samples
      let drift := if x.loop then (if n < 2 * raw then raw - n else if 2 * raw < -n then raw + n else raw) else raw
      if drift.natAbs ≤ 24 then setVoice v { x with trim := none, jump := false } s
      else if drift.natAbs ≤ 1200 then
        setVoice v { x with trim := some ⟨decide (drift < 0), drift.natAbs - 24, 0⟩, jump := false } s
      else
        let s := setVoice v { x with trim := none, jump := true } s
        if x.waiting then applyJump v s else s
  | _, _ => s

/-- The Sound Engine takes a SYNC (R157). -/
def soundSync (scene : Nat) (s : State) : State :=
  allVoices.foldl (fun s v =>
    let x := voiceOf s v
    if x.state = .playing ∧ x.lock.map SceneLock.scene = some scene then driftTest v s else s) s

/-- What a voice keeps when its scene's clock becomes invalid: it continues unlocked, a STARTING voice from the expected
position at that moment, 0 when that is negative (R156). A looping voice whose entry has not arrived has no sample count to
reduce it by yet (DESIGN CHOICE, notes/assumptions/35.md). `s` is the part with the clock still valid. -/
def unlockedVoice (s : State) (x : Voice) : Voice :=
  let y := { x with lock := none, trim := none, jump := false }
  match x.state with
  | .starting => { y with position := (startPosition s x).toNat }
  | _ => y

/-- Voices locked to `scene` continue unlocked in `s`; `before` is the part with the scene's clock still valid. -/
def soundClockInvalid (scene : Nat) (before s : State) : State :=
  let vs := allVoices.filter fun v => (voiceOf s v).lock.map SceneLock.scene == some scene
  reworkStarts vs (vs.foldl (fun s v => setVoice v (unlockedVoice before (voiceOf s v)) s) s)

/-! ### Deliveries to voices and pin places (R145, R151, R153) -/

/-- A clip entry is delivered to a voice in STARTING (R145); `none` is an unusable entry. The position that a looping voice
holds is brought within the clip here, once N is known (R156; where the scene's clock became invalid before the entry
arrived, a DESIGN CHOICE, notes/assumptions/35.md). The start block is worked out here for the first time, and the wants are
upkept (R150). -/
def clipEntryToVoice (v : Nat) (e : Option ClipEntry) (s : State) : State :=
  let x := voiceOf s v
  if x.state = .starting ∧ x.entry = none then
    match e with
    | none => toIdle v s
    | some e =>
      let loop := x.loop || (e.loop && v != 0)
      reworkStarts [v] (setVoice v { x with
        entry := some e
        loop := loop
        position := if loop then x.position % e.samples else x.position
        startBlock := none } s)
  else s

def pinOf (s : State) (place : Nat) : Option Pin :=
  s.sound.pins.getD (place - 1) none

def setPin (place : Nat) (p : Option Pin) (s : State) : State :=
  withSound { s.sound with pins := s.sound.pins.setIfInBounds (place - 1) p } s

/-- A pin place is HELD when none of its way's slots is FILLING (R153). -/
def pinSettle (place : Nat) (s : State) : State :=
  match pinOf s place with
  | some p =>
    if p.phase = .filling ∧ allSets.all fun i => !((cacheSet s i).slot (place - 1)).isAnyFilling then
      setPin place (some { p with phase := .held }) s
    else s
  | none => s

/-- The clip blocks a pin holds: 0 to min(31, length − 1) (R153). -/
def pinBlocks (e : ClipEntry) : List Nat :=
  (List.range (min 32 e.length)).map fun j => e.start + j

/-- Reserve a slot of the place's way for each block that `p` picks, and offer its pin fill; a refused fill leaves its
slot INVALID (R153), and no voice upkeeps for it (DESIGN CHOICE, notes/assumptions/41.md). -/
def fillPin (place : Nat) (p : Slot → Bool) (e : ClipEntry) (s : State) : State :=
  let w := place - 1
  (pinBlocks e).foldl (fun s b =>
    let c := cacheSet s (setOf b)
    if p (c.slot w) then
      let r := offerRead (.pin place) (.block b) (setCacheSet (setOf b) ((c.putSlot w (.filling b)).touch w) s)
      if r.2 then r.1 else setCacheSet (setOf b) ((cacheSet r.1 (setOf b)).putSlot w .invalid) r.1
    else s) s

/-- The place is emptied and its way unlocked with every slot INVALID (R153). -/
def emptyPin (place : Nat) (s : State) : State :=
  setPin place none (mapSlots (fun _ w x => if w = place - 1 then .invalid else x) (withdraw (.pin place) s))

/-- A clip entry is delivered to a pin place (R153). -/
def clipEntryToPin (place : Nat) (e : Option ClipEntry) (s : State) : State :=
  match pinOf s place with
  | some p =>
    if p.phase = .entry then
      match e with
      | none => emptyPin place s
      | some e => pinSettle place (fillPin place (fun _ => true) e (setPin place (some ⟨p.clip, some e, .filling⟩) s))
    else s
  | none => s

/-- A voice proceeds with a block that is now resident (R151): one in STARTING under R145, and one that waits by taking its
needed block (R152). -/
def proceedVoice (s : State) (v : Nat) : State :=
  let x := voiceOf s v
  match x.state with
  | .starting => enterPlaying v s
  | _ => if x.waiting then (takeBlock v (x.position / 256) s).getD s else s

/-- What the delivery of a block makes of every voice (R151): every voice whose start block or needed block is now resident
proceeds, and only then do those that stay in STARTING upkeep or end (R145, R150). R145's "a delivery" is read as the
delivery of a block (DESIGN CHOICE, notes/assumptions/42.md). -/
def proceedVoices (s : State) : State :=
  allVoices.foldl (fun s v => stayStarting v s) (allVoices.foldl proceedVoice s)

/-- A block is delivered to one requester (R151): it is written into the slots FILLING it, voices proceed, and the voice
delivered to upkeeps. The other voices with a want of that set that waits unreserved upkeep after it (R150), in ascending
order; that they come after it is the model's choice (DESIGN CHOICE, notes/assumptions/51.md). -/
def blockDelivered (r : Requester) (b : Nat) (data : BlockData) (s : State) : State :=
  let written := writeBlock b data s
  let s' := pinSettle 2 (pinSettle 1 (proceedVoices written))
  let s' := match r with
    | .voice v => upkeep v s'
    | _ => s'
  afterFilling s (s')

/-! ### PIN, UNPIN and invalidation (R153 to R155) -/

/-- PIN and UNPIN are taken in RUN while the Sound Engine is enabled; otherwise they are ignored and not counted (R160). -/
def takesPins (s : State) : Bool :=
  s.startUp.run == .run && !s.showDisabled

/-- A PIN action (R153). A voice whose own FILLING slot stood in the way has that want waiting unreserved from then on, and
upkeeps in the same event, before the place asks for its entry (DESIGN CHOICE, notes/assumptions/45.md). -/
def pinClip (clip : Nat) (s : State) : State :=
  let holds (place : Nat) : Bool := (pinOf s place).any fun p => p.clip == clip
  if !takesPins s then s
  else if 511 < clip ∨ holds 1 ∨ holds 2 then countContentError s
  else
    match [1, 2].find? fun place => (pinOf s place).isNone with
    | none => countContentError s
    | some place =>
      let cleared := setPin place (some ⟨clip, none, .entry⟩)
        (mapSlots (fun _ w x => if w = place - 1 then .invalid else x) s)
      let r := offerRead (.pin place) (.clipEntry clip) (afterFilling s cleared)
      if r.2 then r.1 else emptyPin place r.1

/-- An UNPIN action (R154). -/
def unpinClip (clip : Nat) (s : State) : State :=
  if !takesPins s then s
  else if 511 < clip then countContentError s
  else
    match [1, 2].find? fun place => (pinOf s place).any fun p => p.clip == clip with
    | none => s
    | some place =>
      let freed := setPin place none (withdraw (.pin place) s)
      let wanted := allVoices.flatMap (wants freed)
      afterFilling s (mapSlots (fun _ w x =>
        match x with
        | .filling b => if w = place - 1 && !wanted.contains b then .invalid else x
        | _ => x) freed)

/-- Entry into a LOAD stretch: every slot of every unlocked way becomes INVALID, and nothing is upkept or withdrawn
(R155). -/
def invalidateCache (s : State) : State :=
  mapSlots (fun _ w x => if wayLocked s w then x else .invalid) s

/-! ### The meanings -/

/-- OUTPUT_PERIOD (R146, R158): the k-th output period begins k × 125/3 µs after power-on. The sample is worked out here and
stays on I²S until the next one (DESIGN CHOICE, notes/assumptions/48.md). -/
def execOutputPeriod (dt : Nat) (s : State) : Out :=
  event dt (fun s =>
    if s.sound.outputCount * 125 ≤ s.nowUs * 3 then
      let s := withSound { s.sound with output := outputSample s, outputCount := s.sound.outputCount + 1 } s
      if s.startUp.run = .run then allVoices.foldl advanceVoice s else s
    else s) s

/-- The remaining time of a fade (R147). -/
def fadeLeft (s : State) (f : Fade) : Nat :=
  f.length - (s.rideCount - f.beganMs)

/-- FADE_END (R147). -/
def execFadeEnd (dt voice : Nat) (s : State) : Out :=
  event dt (fun s =>
    let x := voiceOf s voice
    match x.state, x.fade with
    | .stopping, some f => if fadeLeft s f = 0 then toIdle voice s else s
    | _, _ => s) s

/-- LOCKED_VOICE_TICK (R156): a locked voice in STARTING reworks its start block, a change of which upkeeps its wants,
and is tested under R145. -/
def execLockedVoiceTick (dt voice : Nat) (s : State) : Out :=
  event dt (fun s =>
    let x := voiceOf s voice
    if x.lock.isSome then reworkStarts [voice] s else s) s

/-- IDLE_TIMER_EXPIRY (R159). -/
def execIdleTimerExpiry (dt : Nat) (s : State) : Out :=
  event dt (fun s =>
    match s.sound.amp with
    | .muted t => if t ≤ s.nowUs then withAmp .standby s else s
    | _ => s) s

/-- WAKE_TIMER_EXPIRY (R159). -/
def execWakeTimerExpiry (dt : Nat) (s : State) : Out :=
  event dt (fun s =>
    match s.sound.amp with
    | .waking t =>
      if t ≤ s.nowUs then ampSettle (testStarts (withAmp .active s)) else s
    | _ => s) s

end Sys2Proof.Machine
end

