-- ==== Sys2Proof/Machine/Cues.lean ====
section
/-! DEFINITION. The Cue Engine (09_cues_and_effects.md): scene clocks, the armed list, triggers and evaluation, actions, show
holds, effect lines and suspension, and the commands SCENE_TIME_REACHED, SCENE_CLOCK_EXPIRY, SHOW_HOLD_EXPIRY and
EFFECT_TIMER_EXPIRY. -/

namespace Sys2Proof.Machine

def withCues (c : CueState) (s : State) : State :=
  { s with cues := c }

/-- The Cue Engine is suspended while a restraint or safety stop it has been told of is in force (R140). -/
def CueState.isSuspended (c : CueState) : Bool :=
  c.restraintStop || c.safetyStop

/-! ### Arming (R129, R130) -/

def ArmedRecord.is (cue mark : Nat) (r : ArmedRecord) : Bool :=
  r.cue == cue && r.mark == mark

/-- A record takes its place by mark, after those of an equal mark. -/
def insertRecord (r : ArmedRecord) (l : List ArmedRecord) : List ArmedRecord :=
  l.takeWhile (fun x => decide (x.mark ≤ r.mark)) ++ r :: l.dropWhile (fun x => decide (x.mark ≤ r.mark))

def removeRecord (cue mark : Nat) (s : State) : State :=
  withCues { s.cues with armed := s.cues.armed.filter fun r => !r.is cue mark } s

/-- A LOADING record that leaves the list is withdrawn at the Content Reader (R131). -/
def withdrawRecord (r : ArmedRecord) (s : State) : State :=
  if r.entry.isNone then withdraw (.record r.cue r.mark) s else s

/-- A record is added in state LOADING, and its entry is asked for; a refused request takes it out again (R130, R131). -/
def addRecord (r : ArmedRecord) (s : State) : State :=
  let q := offerRead (.record r.cue r.mark) (.cueEntry r.cue)
    (withCues { s.cues with armed := insertRecord r s.cues.armed } s)
  if q.2 then q.1 else countCueLost (removeRecord r.cue r.mark q.1)

/-- A cue is armed at `mark` (R129, R130); nothing is armed while the Cue Engine is disabled or outside RUN (R142). -/
def armCue (cue mark : Nat) (origin : Origin) (frameScene : Option (Nat × Nat)) (s : State) : State :=
  if s.startUp.run = .run ∧ s.showDisabled = false then
    let r : ArmedRecord := ⟨cue, mark, origin, frameScene, none⟩
    if s.cues.armed.any (ArmedRecord.is cue mark) then s
    else if s.cues.armed.length < 12 then addRecord r s
    else
      match s.cues.armed.getLast? with
      | some last =>
        if mark < last.mark then
          addRecord r (withdrawRecord last
            (countCueLost (withCues { s.cues with armed := s.cues.armed.dropLast } s)))
        else countCueLost s
      | none => s
  else s

/-! ### Triggers (R129, R132, R133) -/

/-- The record's scene (R129). -/
def recordScene (s : State) (r : ArmedRecord) : Nat :=
  match r.frameScene with
  | some (scene, _) => scene
  | none => s.path.window.elim 0 PathWindow.scene

/-- The record's start time (R129). -/
def recordStart (s : State) (r : ArmedRecord) : Option Nat :=
  match r.frameScene with
  | some (_, time) => some time
  | none => sceneTime s (recordScene s r)

/-- PATH_CLEAR: no here item of a neighbour entry conflicts with the window's next item, or its here item when there is
no next (R133). -/
def pathClear (s : State) : Bool :=
  match s.path.window with
  | none => false
  | some w =>
    let it := w.next.elim w.here NextStretch.item
    !(s.zone.neighbours.toList.any fun n => n.any fun e => e.here.any fun h => h.conflicts it)

def secondaryHolds (s : State) (r : ArmedRecord) : Secondary → Bool
  | .none => false
  | .slowerThan v => decide (s.path.speed < v)
  | .sceneTime ms => (sceneTime s (recordScene s r)).any fun t => decide (ms ≤ t)
  | .pathClear => pathClear s

/-- The window of a WITHIN compare, at most 4,095 mm (R132). -/
def CueEntry.span (e : CueEntry) : Nat :=
  min 4095 e.window

/-- The primary compare (R132). -/
def primaryHolds (d mark : Nat) (e : CueEntry) : Bool :=
  match e.compare with
  | .atMark => decide (mark ≤ d)
  | .within => decide (mark ≤ d ∧ d ≤ mark + e.span)
  | .before => decide (d < mark)

/-- Missed by the compare, or by the expiry 8,192 mm past the mark (R132). -/
def recordMissed (d mark : Nat) (e : CueEntry) : Bool :=
  decide (mark + 8192 < d) ||
  match e.compare with
  | .atMark => false
  | .within => decide (mark + e.span < d)
  | .before => decide (mark ≤ d)

/-- The combined trigger (R133). -/
def triggered (s : State) (r : ArmedRecord) (e : CueEntry) : Bool :=
  let p := primaryHolds s.path.odometer r.mark e
  match e.secondary with
  | .none => p
  | k => if e.either then p || secondaryHolds s r k else p && secondaryHolds s r k

/-- What an evaluation makes of one record: it stays, it is missed, or it fires (R134). A BEFORE record is decided at its
one test. -/
inductive Judgement where
  | stays | missed | fires
  deriving DecidableEq, Repr

def judgeRecord (s : State) (r : ArmedRecord) : Judgement :=
  match r.entry with
  | none => .stays
  | some e =>
    if recordMissed s.path.odometer r.mark e then .missed
    else if triggered s r e then .fires
    else
      match e.compare with
      | .before => .missed
      | _ => .stays

/-! ### Show holds and effect lines (R138, R139) -/

def withHold (h : ShowHold) (v : Nat) (s : State) : State :=
  setLimit .showHold v (withCues { s.cues with hold := h } s)

/-- A HOLD action (R138). -/
def holdShow (word : Nat) (s : State) : State :=
  let d := min 60000 word
  match s.cues.hold with
  | .none =>
    if s.standing then
      if d = 0 then s else withHold (.running (s.rideCount + d)) 0 s
    else withHold (.pending d) 0 s
  | .pending p => withCues { s.cues with hold := .pending (max p d) } s
  | .running t => withCues { s.cues with hold := .running (max t (s.rideCount + d)) } s

/-- A PENDING hold starts at the speed capture that reads 0 (R138). -/
def startHold (s : State) : State :=
  match s.cues.hold with
  | .pending d =>
    if s.standing then
      if d = 0 then withHold .none 4000 s else withCues { s.cues with hold := .running (s.rideCount + d) } s
    else s
  | _ => s

def setEffect (line : Nat) (m : EffectMode) (s : State) : State :=
  withCues { s.cues with effects := s.cues.effects.setIfInBounds (line - 1) m } s

/-- The mode an EFFECT action sets, with its timer (R139); nothing for a mode outside the four. -/
def effectMode (s : State) (mode first second : Nat) : Option EffectMode :=
  match mode with
  | 0 => some .off
  | 1 => some .on
  | 2 => some (if first = 0 then .off else .pulse (s.afterMs first))
  | 3 => some (if first = 0 then .off else if second = 0 then .on else .blink first second true (s.afterMs first))
  | _ => none

/-- The level a line drives (R139). -/
def EffectMode.level : EffectMode → Bool
  | .off => false
  | .on => true
  | .pulse _ => true
  | .blink _ _ phase _ => phase

/-- The fault level of each line: from the configuration image in RUN, OFF in LOADING and INHIBIT (R140, R142). -/
def faultLevels (s : State) : Vector EffectMode 8 :=
  Vector.ofFn fun i : Fin 8 =>
    if s.startUp.run == .run && s.cfg.effectFaults.getLsbD i.val then EffectMode.on else EffectMode.off

/-! ### Firing (R135 to R137) -/

/-- The scene lock a PLAY gives its voice: none when the flag is clear, the start time absent or the clock invalid
(R136). -/
def playLock (s : State) (r : ArmedRecord) (locked : Bool) : Option SceneLock :=
  if locked && (sceneTime s (recordScene s r)).isSome then
    (recordStart s r).map fun t => ⟨recordScene s r, t⟩
  else none

/-- The CUE a SEND offers: with the record's scene and start time when the start time is present (R137). -/
def sendBody (s : State) (r : ArmedRecord) : CueBody :=
  ⟨r.cue, (recordStart s r).map fun t => (recordScene s r, t)⟩

/-- The distance of an ARM action: R137 gives it for words up to 4,095; above that it is a free value. -/
def armDistance (word : Nat) : Nat :=
  if word ≤ 4095 then word else Config.armDistanceBeyond word

/-- One action of a firing record; a skipped one counts a content error (R135 to R139). -/
def performAction (r : ArmedRecord) (s : State) (a : Action) : State :=
  match a with
  | .play voice clip gain loop locked =>
    if 1 ≤ voice ∧ voice ≤ 3 then startVoice voice clip gain loop (playLock s r locked) s else countContentError s
  | .stop voice fade =>
    if 1 ≤ voice ∧ voice ≤ 3 then stopVoice voice fade s else countContentError s
  | .pin clip => pinClip clip s
  | .unpin clip => unpinClip clip s
  | .effect line mode first second =>
    match effectMode s mode first second with
    | some m => if 1 ≤ line ∧ line ≤ 8 then setEffect line m s else countContentError s
    | none => countContentError s
  | .hold ms => holdShow ms s
  | .send => if r.origin = .frame then countContentError s else offerFrame 0 (.cue (sendBody s r)) s
  | .arm cue word =>
    if cue = 0 ∨ word = 0 then countContentError s
    else armCue cue (markAt s.path.odometer (armDistance word)) .arm none s

/-- A record that has left the list performs its actions in order (R135). -/
def fireRecord (s : State) (r : ArmedRecord) : State :=
  (r.entry.elim [] CueEntry.actions).foldl (performAction r) s

/-- A late cue: an AT record that fires at the arrival of its entry with the odometer above its mark, unless it came by
frame (R134 step 3). -/
def isLate (s : State) (fresh : Option (Nat × Nat)) (r : ArmedRecord) : Bool :=
  fresh == some (r.cue, r.mark) && r.origin != .frame && decide (r.mark < s.path.odometer) &&
  r.entry.any fun e => e.compare == .atMark

/-- An evaluation (R134). Every record is judged on the part as it stands at its start; `fresh` names the record that has
just become ARMED, if that is what caused it. -/
def evaluate (fresh : Option (Nat × Nat)) (s : State) : State :=
  if s.cues.isSuspended || s.showDisabled || s.startUp.run != .run then s
  else
    let fires := s.cues.armed.filter fun r => judgeRecord s r == .fires
    let missed := s.cues.armed.filter fun r => judgeRecord s r == .missed
    let left := withCues { s.cues with armed := s.cues.armed.filter fun r => judgeRecord s r == .stays } s
    fires.foldl fireRecord
      (countLateCues (fires.filter (isLate s fresh)).length (countMissedCues missed.length left))

/-- A cue directory entry is delivered to a LOADING record (R131): an unusable one takes the record out of the list. -/
def cueEntryDelivered (cue mark : Nat) (e : Option CueEntry) (s : State) : State :=
  if s.cues.armed.any fun r => r.is cue mark && r.entry.isNone then
    match e with
    | none => removeRecord cue mark s
    | some e =>
      evaluate (some (cue, mark)) (withCues { s.cues with
        armed := s.cues.armed.map fun r => if r.is cue mark then { r with entry := some e } else r } s)
  else s

/-! ### Suspension (R140) -/

/-- Each line takes its fault level, its timers discarded. -/
def takeFaultLevels (s : State) : State :=
  withCues { s.cues with effects := faultLevels s } s

def beginSuspension (s : State) : State :=
  takeFaultLevels (pauseVoices s)

def endSuspension (s : State) : State :=
  evaluate none (resumeVoices s)

/-- The causes of suspension change to those of `c`; suspension begins with the first and ends with the last. -/
def tellStops (c : CueState) (s : State) : State :=
  let s' := withCues c s
  if c.isSuspended then (if s.cues.isSuspended then s' else beginSuspension s')
  else (if s.cues.isSuspended then endSuspension s' else s')

def tellRestraintStop (inForce : Bool) (s : State) : State :=
  tellStops { s.cues with restraintStop := inForce } s

def tellSafetyStop (inForce : Bool) (s : State) : State :=
  tellStops { s.cues with safetyStop := inForce } s

/-! ### Entering a LOAD stretch (R141) -/

def emptyArmed (s : State) : State :=
  s.cues.armed.foldl (fun s r => withdrawRecord r s) (withCues { s.cues with armed := [] } s)

/-- What the Cue Engine does at an entry into a LOAD stretch (R141). A Cue Engine that is disabled and not suspended turns
its lines OFF like any other, though R142 says that they stay at the fault levels of an earlier suspension (DESIGN CHOICE,
notes/assumptions/34.md). -/
def cuesAtLoad (s : State) : State :=
  let s := emptyArmed s
  let s := if s.cues.isSuspended then s else withCues { s.cues with effects := Vector.replicate 8 .off } s
  withHold .none 4000 s

/-! ### Scene clocks (R128) -/

def setClock (scene : Nat) (c : SceneClock) (s : State) : State :=
  withCues { s.cues with clocks := s.cues.clocks.setIfInBounds (scene - 1) c } s

/-- A SYNC handed to the Cue Engine (R128): the entry is set, the Sound Engine takes it, the records are evaluated. -/
def takeSync (scene clock : Nat) (s : State) : State :=
  evaluate none (soundSync scene (setClock scene ⟨clock, s.rideTime, true⟩ s))

/-- A scene clock entry becomes invalid (R128). -/
def expireClock (scene : Nat) (c : SceneClock) (s : State) : State :=
  evaluate none (soundClockInvalid scene s (setClock scene { c with valid := false } s))

/-! ### The meanings -/

/-- SCENE_TIME_REACHED (R134): the scene time now of a valid scene has reached the parameter of an ARMED SCENE_TIME record
of that scene. -/
def execSceneTimeReached (dt scene : Nat) (s : State) : Out :=
  event dt (fun s =>
    let reached (r : ArmedRecord) : Bool := recordScene s r == scene && r.entry.any fun e =>
      match e.secondary with
      | .sceneTime ms => (sceneTime s scene).any fun t => decide (ms ≤ t)
      | _ => false
    if s.cues.armed.any reached then evaluate none s else s) s

/-- SCENE_CLOCK_EXPIRY (R128): 5,000 ms have passed since the entry's receipt time. -/
def execSceneClockExpiry (dt scene : Nat) (s : State) : Out :=
  event dt (fun s =>
    if scene = 0 then s
    else
      match s.cues.clocks[scene - 1]? with
      | some c => if c.valid ∧ 5000 ≤ s.elapsedSince c.receipt then expireClock scene c s else s
      | none => s) s

/-- SHOW_HOLD_EXPIRY (R138). -/
def execShowHoldExpiry (dt : Nat) (s : State) : Out :=
  event dt (fun s =>
    match s.cues.hold with
    | .running t => if t ≤ s.rideCount then withHold .none 4000 s else s
    | _ => s) s

/-- EFFECT_TIMER_EXPIRY (R139): a PULSE ends, or a BLINK goes on to its other phase. -/
def execEffectTimerExpiry (dt line : Nat) (s : State) : Out :=
  event dt (fun s =>
    if line = 0 then s
    else
      match s.cues.effects[line - 1]? with
      | some (.pulse t) => if t ≤ s.nowUs then setEffect line .off s else s
      | some (.blink high low phase t) =>
        if t ≤ s.nowUs then
          setEffect line (.blink high low (!phase) (t + (if phase then low else high) * 1000)) s
        else s
      | _ => s) s

end Sys2Proof.Machine
end

