-- ==== Sys2Proof/Machine/Drive.lean ====
section
/-! DEFINITION. The Motion Governor (04_the_speed_envelope_and_drive.md): the drive target and its ramp, the brake, the
standstill and overspeed tests, safety stops, and the commands DRIVE_PERIOD, STANDSTILL_TIMER_EXPIRY,
OVERSPEED_TIMER_EXPIRY, CHAIN_OPEN and CHAIN_CLOSE. -/

namespace Sys2Proof.Machine

def withGovernor (g : GovernorState) (s : State) : State :=
  { s with governor := g }

/-! ### Safety stops (R71, R76) -/

/-- The governor's own part of raising a safety stop (R71 steps 1 to 7). -/
def latchCause (c : StopCause) (g : GovernorState) : GovernorState :=
  { g with
    causes := g.causes.put true c
    limits := (g.limits.put 0 .safety).put 0 .ride
    width := 0
    nextWidth := 0
    target := 0
    rampRemainder := 0
    brake := .stop
    overspeedDue := none }

/-- A safety stop is raised (R71): the fault enters the record, the cause is latched, and the Cue Engine is told when the
stop begins with it. -/
def raiseStop (c : StopCause) (s : State) : State :=
  let s' := withGovernor (latchCause c s.governor) (raiseFault c.fault s)
  if s.governor.causes.any then s' else tellSafetyStop true s'

/-- Causes leave the set of latched stop causes. When that empties it the safety stop ends (R76). -/
def latchOnly (c : CauseSet) (s : State) : State :=
  let s' := withGovernor { s.governor with causes := c } s
  if s.governor.causes.any && !c.any then
    tellSafetyStop false (withGovernor { s'.governor with
      limits := s'.governor.limits.put 4000 .safety
      brake := if s'.governor.brake = .stop then .hold else s'.governor.brake } s')
  else s'

/-! ### The drive target (R66, R67) -/

def isCurve : LimitSource → Bool
  | .cap => true
  | .zone => true
  | .load => true
  | _ => false

/-- The remainder a ramp step starts from: 0 when the direction differs from the previous evaluation's (R66). -/
def carried (g : GovernorState) (d : RampDirection) : Nat :=
  if g.rampDirection = d then g.rampRemainder else 0

/-- The next width for a target, in µs (R68). -/
def widthFor (s : State) (target : Nat) : Nat :=
  if s.startUp.run = .run ∧ s.governor.limits.safety ≠ 0 then min 1000 (target * 1000 / s.cfg.fullScale) else 0

/-- The governor after a ramp step at rate `rate`: the remainder becomes 0 and the direction none when the target ends
equal to the limit (R66). -/
def ramped (g : GovernorState) (d : RampDirection) (rate limit target : Nat) : GovernorState :=
  if target = limit then { g with target := target, rampRemainder := 0, rampDirection := .none }
  else { g with target := target, rampRemainder := (rate + carried g d) % 1000, rampDirection := d }

/-- A curve breach (R67). -/
def breach (limit : Nat) (s : State) : State :=
  let brake := match s.governor.brake with
    | .off => Brake.assist
    | .hold => .assist
    | b => b
  countCurveBreach (withGovernor { s.governor with
    target := limit, rampRemainder := 0, rampDirection := .none, brake := brake } s)

/-- One evaluation of the drive target (R66, R67). -/
def evaluateTarget (s : State) : State :=
  let g := s.governor
  let limit := g.limits.effective
  if g.target ≤ limit then
    let step := (s.cfg.acceleration + carried g .up) / 1000
    withGovernor (ramped g .up s.cfg.acceleration limit (min limit (g.target + step))) s
  else
    let step := (s.cfg.serviceDecel + carried g .down) / 1000
    if isCurve g.limits.binding ∧ limit + step + 100 < g.target then breach limit s
    else withGovernor (ramped g .down s.cfg.serviceDecel limit (max limit (g.target - step))) s

/-! ### The brake and the timers tested at captures and evaluations (R69, R70, R73) -/

/-- ASSIST ends when the measured speed is at or below the effective limit (R69). -/
def assistTest (s : State) : State :=
  if s.governor.brake = .assist ∧ s.path.speed ≤ s.governor.limits.effective then
    withGovernor { s.governor with brake := .off } s
  else s

/-- The standstill timer starts when speed and target are both 0, and is discarded when either is not (R70). -/
def standstillTest (s : State) : State :=
  if s.path.speed = 0 ∧ s.governor.target = 0 then
    match s.governor.standstill with
    | .idle => withGovernor { s.governor with standstill := .running (s.afterMs 500) } s
    | _ => s
  else withGovernor { s.governor with standstill := .idle } s

/-- The overspeed condition (R73). -/
def overspeedHolds (s : State) : Bool :=
  decide (max s.governor.limits.effective s.governor.target + s.cfg.overspeedMargin < s.path.speed)

/-- The overspeed timer starts for 200 ms when the condition is found true and is discarded when it is found false
(R73). -/
def overspeedTest (s : State) : State :=
  if s.startUp.run = .run ∧ s.governor.causes.any = false then
    if overspeedHolds s then
      match s.governor.overspeedDue with
      | none => withGovernor { s.governor with overspeedDue := some (s.afterMs 200) } s
      | some _ => s
    else withGovernor { s.governor with overspeedDue := none } s
  else s

def governorTests (s : State) : State :=
  overspeedTest (standstillTest (assistTest s))

/-- A target that rises above 0 at an evaluation releases a brake in HOLD (R69). -/
def releaseBrake (before : Nat) (s : State) : State :=
  if s.governor.brake = .hold ∧ before = 0 ∧ 0 < s.governor.target then
    withGovernor { s.governor with brake := .off } s
  else s

/-- What happens at a period boundary (R65): the next width comes into force, the target is evaluated, the next width is
computed, and the tests of an evaluation are made. -/
def drivePeriod (s : State) : State :=
  let s := withGovernor { s.governor with width := s.governor.nextWidth, periodDue := s.governor.periodDue + 1000 } s
  let e := releaseBrake s.governor.target (evaluateTarget s)
  governorTests (withGovernor { e.governor with nextWidth := widthFor e e.governor.target } e)

/-! ### The meanings -/

/-- DRIVE_PERIOD (R65). -/
def execDrivePeriod (dt : Nat) (s : State) : Out :=
  event dt (fun s => if s.governor.periodDue ≤ s.nowUs then drivePeriod s else s) s

/-- STANDSTILL_TIMER_EXPIRY (R70). -/
def execStandstillTimerExpiry (dt : Nat) (s : State) : Out :=
  event dt (fun s =>
    match s.governor.standstill with
    | .running t =>
      if t ≤ s.nowUs then
        withGovernor { s.governor with
          standstill := .spent
          brake := if s.governor.brake = .off then .hold else s.governor.brake } s
      else s
    | _ => s) s

/-- OVERSPEED_TIMER_EXPIRY (R73). -/
def execOverspeedTimerExpiry (dt : Nat) (s : State) : Out :=
  event dt (fun s =>
    if s.isDue s.governor.overspeedDue then
      raiseStop .overspeed (withGovernor { s.governor with overspeedDue := none } s)
    else s) s

def setChain (high : Bool) (s : State) : State :=
  { s with scanner := { s.scanner with chainHigh := high } }

/-- CHAIN_OPEN (R72, R90): in every run state, the line goes low; an opening while CHAIN_OPEN is latched changes nothing
more. -/
def execChainOpen (dt : Nat) (s : State) : Out :=
  event dt (fun s =>
    if s.scanner.chainHigh then
      if s.governor.causes.chainOpen then setChain false s else raiseStop .chainOpen (setChain false s)
    else s) s

/-- CHAIN_CLOSE (R90): the line goes high, which ends no stop by itself. -/
def execChainClose (dt : Nat) (s : State) : Out :=
  event dt (setChain true) s

end Sys2Proof.Machine
end

