-- ==== Sys2Proof/Machine/Restraints.lean ====
section
/-! DEFINITION. The Restraint Monitor (07_restraints.md): judging, the restraint stop with its spiel, load standstill, the
LOAD entry, CHECK, DISPATCH and CLEAR as they reach it, and the commands SUSPECT_TIMER_EXPIRY and SPIEL_REPEAT_EXPIRY. -/

namespace Sys2Proof.Machine

def withRestraints (r : RestraintState) (s : State) : State :=
  { s with restraints := r }

def barOf (s : State) (i : Nat) : Bar :=
  s.restraints.bars.getD (i - 1) Bar.reset

def setBar (i : Nat) (b : Bar) (s : State) : State :=
  withRestraints { s.restraints with bars := s.restraints.bars.setIfInBounds (i - 1) b } s

/-- Restraints 1 to restraint count, in order. -/
def barNumbers (s : State) : List Nat :=
  (List.range s.cfg.restraintCount).map fun k => k + 1

/-! ### Conditions (R106, R107) -/

/-- A good lock: the latch CLOSED, the position at or below the lock threshold, and the sensor not bad (R106). -/
def goodLock (threshold : Nat) (b : Bar) : Bool :=
  b.latch == .closed && b.position.any fun p => decide (p ≤ threshold ∧ 40 ≤ p ∧ p ≤ 4055)

/-- Load standstill (R107). -/
def State.loadStandstill (s : State) : Bool :=
  s.path.window.any PathWindow.load && !s.restraints.dispatched && s.standing

/-! ### The spiel (R112) and the restraint stop (R111) -/

def startSpiel (s : State) : State :=
  startVoice 0 s.cfg.spielClip 128 false none s

def spielPeriod (s : State) : Nat :=
  s.cfg.spielRepeat * 1000000

/-- The restraint stop begins or ends with what R111 says, when whether a restraint is in FAULT has changed from `was`;
RESTRAINT is set anew either way. -/
def settleStop (was : Bool) (s : State) : State :=
  let now := s.anyBarFault
  let s := setLimit .restraint (if now then 0 else 4000) s
  if now && !was then
    let s := tellRestraintStop true s
    startSpiel (withRestraints { s.restraints with spielDue := some (s.nowUs + spielPeriod s) } s)
  else if was && !now then
    let s := tellRestraintStop false s
    withRestraints { s.restraints with spielDue := none } s
  else s

/-! ### Judging (R108 to R111) -/

/-- The restraint a judging leaves, for a restraint that stands as `b` at time `now` (R109, R110): `atLoad` is load
standstill, `grace` the suspect time in µs. -/
def judgedBar (threshold grace now : Nat) (atLoad : Bool) (b : Bar) : Bar :=
  match b.state with
  | .opened =>
    if goodLock threshold b then { b with state := .locked }
    else if atLoad then b
    else { b with state := .fault }
  | .locked =>
    if goodLock threshold b then b
    else if atLoad then { b with state := .opened }
    else { b with state := .suspect, suspectDue := some (now + grace) }
  | .suspect =>
    if goodLock threshold b then { b with state := .locked, suspectDue := none }
    else if atLoad then { b with state := .opened, suspectDue := none }
    else b
  | .fault => b

/-- Restraint `i` becomes `b`; an entry into FAULT raises RESTRAINT (R111). -/
def moveBar (i : Nat) (b : Bar) (s : State) : State :=
  let s' := setBar i b s
  if b.state = .fault ∧ (barOf s i).state ≠ .fault then raiseFault .restraint s' else s'

def judgeBar (s : State) (i : Nat) : State :=
  moveBar i (judgedBar s.cfg.lockThreshold (s.cfg.suspectTime * 1000) s.nowUs s.loadStandstill (barOf s i)) s

def barStates (s : State) : List BarState :=
  s.restraints.bars.toList.map Bar.state

/-- What follows once when an event has changed the state of a restraint from those in `before`: dispatch-ready is
voided, RESTRAINT set anew, and a begun or ended restraint stop reported (R108). -/
def afterJudging (before s : State) : State :=
  if barStates before = barStates s then s
  else settleStop before.anyBarFault (withRestraints { s.restraints with ready := false } s)

/-- The restraints named are judged in order, while judging is ACTIVE (R108). -/
def judge (bars : List Nat) (s : State) : State :=
  if s.restraints.judging then afterJudging s (bars.foldl judgeBar s) else s

/-- A beginning or an end of load standstill judges every restraint (R107, R108). -/
def standstillChange (s : State) : State :=
  let now := s.loadStandstill
  if s.restraints.standstill = now then s
  else judge (barNumbers s) (withRestraints { s.restraints with standstill := now } s)

/-! ### The LOAD entry (R117) and what the Restraint Monitor is handed -/

def loadEntry (s : State) : Nat :=
  match s.path.window with
  | none => 4000
  | some w =>
    if w.load && !s.restraints.dispatched then
      match w.next with
      | some n => stopCurve s n.mark s.cfg.stopMargin 0
      | none => 4000
    else 4000

def setLoad (s : State) : State :=
  setLimit .load (loadEntry s) s

/-- A change of the path window, as the Restraint Monitor takes it. -/
def restraintsAtWindow (s : State) : State :=
  setLoad (standstillChange s)

/-- Entry into a LOAD stretch (R118). -/
def restraintsAtLoad (s : State) : State :=
  setLoad (standstillChange (withRestraints { s.restraints with dispatched := false, ready := false } s))

/-- A latch change delivered for restraint `i` (R105, R108). -/
def latchDelivered (i : Nat) (l : LatchState) (s : State) : State :=
  judge [i] (setBar i { barOf s i with latch := l } s)

/-- A RESTRAINT record delivered (R105, R108): the first one 20 ms or more after RUN or a warm reset makes judging
ACTIVE. -/
def recordDelivered (positions : List Nat) (s : State) : State :=
  let placed := (barNumbers s).foldl (fun s i =>
    setBar i { barOf s i with position := positions[i - 1]? } s) s
  let s' := withRestraints { placed.restraints with
    judging := placed.restraints.judging || decide (placed.restraints.judgeFrom ≤ placed.nowUs) } placed
  judge (barNumbers s') s'

/-! ### CHECK, DISPATCH and CLEAR (R113 to R116) -/

/-- PASS when every restraint is LOCKED (R114). -/
def verdictPass (s : State) : Bool :=
  (barNumbers s).all fun i => (barOf s i).state == .locked

def takeCheck (source : Nat) (s : State) : State :=
  let pass := verdictPass s
  offerFrame source (.verdict pass ((barNumbers s).map fun i => (barOf s i).state))
    (withRestraints { s.restraints with ready := pass } s)

/-- A DISPATCH (R116). -/
def takeDispatch (s : State) : State :=
  if s.restraints.ready && s.loadStandstill then
    let s := withRestraints { s.restraints with dispatched := true, standstill := false } s
    let s := judge (barNumbers s) s
    setLoad (withRestraints { s.restraints with ready := false } s)
  else if s.restraints.dispatched && s.path.window.any PathWindow.load then s
  else { s with zone := { s.zone with refusedPending := true } }

/-- Where a CLEAR moves a restraint in FAULT (R113). -/
def clearedBar (threshold : Nat) (atLoad : Bool) (b : Bar) : Bar :=
  match b.state with
  | .fault =>
    if goodLock threshold b then { b with state := .locked }
    else if atLoad then { b with state := .opened }
    else b
  | _ => b

def clearRestraints (s : State) : State :=
  afterJudging s ((barNumbers s).foldl (fun s i =>
    setBar i (clearedBar s.cfg.lockThreshold s.loadStandstill (barOf s i)) s) s)

/-! ### The meanings -/

/-- SUSPECT_TIMER_EXPIRY (R110): a SUSPECT bar whose grace time has run out goes to FAULT. -/
def execSuspectTimerExpiry (dt bar : Nat) (s : State) : Out :=
  event dt (fun s =>
    let b := barOf s bar
    if s.restraints.judging ∧ b.state = .suspect ∧ s.isDue b.suspectDue = true ∧ 1 ≤ bar then
      afterJudging s (moveBar bar { b with state := .fault, suspectDue := none } s)
    else s) s

/-- SPIEL_REPEAT_EXPIRY (R112). -/
def execSpielRepeatExpiry (dt : Nat) (s : State) : Out :=
  event dt (fun s =>
    match s.restraints.spielDue with
    | some t =>
      if t ≤ s.nowUs then
        startSpiel (withRestraints { s.restraints with spielDue := some (t + spielPeriod s) } s)
      else s
    | none => s) s

end Sys2Proof.Machine
end

