-- ==== Sys2Proof/Machine/Zones.lean ====
section
/-! DEFINITION. The Zone Controller (03_peers_and_zones.md): the wanted item, the claim and its tests, the hold list, the
ZONE entry, the neighbour table, with the two entries of the Path Tracker that follow from them (TAG, R13, and CAP, R14),
and the commands ANNOUNCE_TIMER_EXPIRY, NEIGHBOUR_AGEING and CLAIM_WINDOW_EXPIRY. -/

namespace Sys2Proof.Machine

def withZone (z : ZoneState) (s : State) : State :=
  { s with zone := z }

def withPath (p : PathState) (s : State) : State :=
  { s with path := p }

/-! ### The entries TAG, CAP and ZONE (R13, R14, R58) -/

/-- The here item is confirmed and the position trusted: the moment a RECOVER grant ends (R12). -/
def trusted (p : PathState) : Bool :=
  p.pos == .tracking && p.window.any PathWindow.confirmed

def tagEntry (crawl : Nat) (p : PathState) : Nat :=
  if trusted p then 4000 else if p.recover then crawl else 0

/-- TAG is set anew from the position state, the here-confirmed flag and the RECOVER grant, which ends when the position
is trusted (R12, R13). -/
def setTag (s : State) : State :=
  let p := { s.path with recover := s.path.recover && !trusted s.path }
  setLimit .tag (tagEntry s.cfg.crawlSpeed p) (withPath p s)

def capEntry (s : State) : Nat :=
  match s.path.window with
  | none => 4000
  | some w =>
    match w.next with
    | none => w.capHere
    | some n => min w.capHere (stopCurve s n.mark 0 w.capNext)

def setCap (s : State) : State :=
  setLimit .cap (capEntry s) s

def zoneEntry (s : State) : Nat :=
  match s.path.window.bind PathWindow.next with
  | none => 4000
  | some n => if s.holds n.item then 4000 else stopCurve s n.mark s.cfg.stopMargin 0

def setZone (s : State) : State :=
  setLimit .zone (zoneEntry s) s

/-! ### Claims (R47 to R53) -/

/-- The wanted item (R47). -/
def wantedItem (s : State) : Option ZoneItem :=
  match s.path.window with
  | none => none
  | some w =>
    if s.holds w.here then
      match w.next with
      | some n => if s.holds n.item then none else some n.item
      | none => none
    else some w.here

/-- The identities of the entries that are LIVE or STALE, with their heard marks clear (R48). -/
def evidenceSet (s : State) : List Evidence :=
  (s.zone.neighbours.toList.zipIdx).filterMap fun (n, k) =>
    match n with
    | some e => if e.fresh = .lost then none else some ⟨k + 1, false⟩
    | none => none

def withClaim (c : Option Claim) (s : State) : State :=
  withZone { s.zone with claim := c } s

/-- The phase in which a claim for `it` stands when it starts or is tested in WAITING (R47, R49). -/
def phaseNow (s : State) (it : ZoneItem) : ClaimPhase :=
  if s.isBlocked it then .waiting else .listen s.rideTime (evidenceSet s)

/-- A claim starts for the wanted item, when there is one, no claim exists and the hold list has fewer than 4 items
(R47). -/
def startClaim (s : State) : State :=
  match wantedItem s, s.zone.claim with
  | some it, none => if s.zone.hold.length < 4 then withClaim (some ⟨it, phaseNow s it⟩) s else s
  | _, _ => s

/-- The here-confirmed flag is set when the here item is found held (R8, R9). -/
def confirmHere (s : State) : State :=
  match s.path.window with
  | some w =>
    if s.holds w.here then setTag (withPath { s.path with window := some { w with confirmed := true } } s) else s
  | none => s

/-- The claim window, in ms (R52). -/
def claimWindowMs (s : State) : Nat :=
  s.cfg.claimWindow * s.cfg.announcePeriod

/-- The four conditions of completion (R52). -/
def claimReady (s : State) (it : ZoneItem) (startMs : Nat) (evidence : List Evidence) : Bool :=
  decide (claimWindowMs s ≤ s.elapsedSince startMs) && evidence.all Evidence.heard && !s.isBlocked it && !s.channel.deaf

/-- A claim completes (R52). -/
def completeClaim (it : ZoneItem) (s : State) : State :=
  let s := withZone { s.zone with hold := s.zone.hold ++ [⟨it, none⟩], claim := none } s
  startClaim (confirmHere (setZone s))

/-- The claim is tested at a change of the neighbour table or of the hold list, at the end of its window, and at the end
of DEAF (R49, R52). -/
def claimTest (s : State) : State :=
  match s.zone.claim with
  | none => s
  | some c =>
    match c.phase with
    | .waiting => withClaim (some ⟨c.item, phaseNow s c.item⟩) s
    | .listen start ev => if claimReady s c.item start ev then completeClaim c.item s else s

/-! ### Installations, crossings and releases (R54 to R56) -/

/-- The hold list without the items that an installation finds abandoned (R54). -/
def keptItems (w : PathWindow) (hold : List HeldItem) : List HeldItem :=
  hold.filter fun h =>
    h.release.isSome || h.item.covers w.here || (w.next.any fun n => h.item.covers n.item)

/-- A claim for what is no longer the wanted item is ended (R54). -/
def endStaleClaim (s : State) : State :=
  match s.zone.claim with
  | some c => if wantedItem s = some c.item then s else withClaim none s
  | none => s

/-- The hold list changes to `hold`: the claim is tested and the wanted item worked out anew (R47, R49, R52). -/
def holdChanged (s : State) : State :=
  startClaim (claimTest s)

/-- The Zone Controller takes an installation, with the new window in place (R54, R47, R58). A claim that goes on is tested
only when an item was removed: an installation that leaves the hold list as it was is no event of R49 or R52. -/
def zoneAtInstall (s : State) : State :=
  match s.path.window with
  | none => s
  | some w =>
    let hold := keptItems w s.zone.hold
    if hold = s.zone.hold then setZone (startClaim (endStaleClaim s))
    else setZone (holdChanged (endStaleClaim (withZone { s.zone with hold := hold } s)))

/-- The hold list after a crossing at `mark` from `left` into `here`: release marks one vehicle length beyond (R55). -/
def markedItems (left here : ZoneItem) (release : Nat) (hold : List HeldItem) : List HeldItem :=
  hold.map fun h =>
    if h.release.isNone && h.item.covers left && !h.item.covers here then { h with release := some release } else h

/-- The Zone Controller takes a crossing (R55, R47, R58). -/
def zoneAtCrossing (left here : ZoneItem) (mark : Nat) (s : State) : State :=
  setZone (startClaim (withZone { s.zone with
    hold := markedItems left here (markAt mark s.cfg.vehicleLength) s.zone.hold } s))

/-- The items whose release mark the odometer has not reached (R56). -/
def unreleased (d : Nat) (hold : List HeldItem) : List HeldItem :=
  hold.filter fun h => h.release.all fun m => decide (d < m)

/-- The Zone Controller takes an odometer update (R56, R58). -/
def zoneAtOdometer (s : State) : State :=
  let hold := unreleased s.path.odometer s.zone.hold
  if hold = s.zone.hold then setZone s
  else setZone (holdChanged (withZone { s.zone with hold := hold } s))

/-! ### The neighbour table (R37 to R41) -/

def neighbourOf (s : State) (peer : Nat) : Option Neighbour :=
  if peer = 0 then none else s.zone.neighbours.getD (peer - 1) none

def setNeighbour (peer : Nat) (n : Option Neighbour) (s : State) : State :=
  if peer = 0 then s
  else withZone { s.zone with neighbours := s.zone.neighbours.setIfInBounds (peer - 1) n } s

/-- A change of the neighbour table (R41): the claim is tested, and the Cue Engine evaluates (R134). -/
def tableChanged (s : State) : State :=
  evaluate none (claimTest s)

/-- The entry of a peer after its POSE (R37); a POSE carrying UNKNOWN leaves the held items and the claim item as they
were (R38). -/
def entryFromPose (s : State) (old : Option Neighbour) (p : PoseBody) : Neighbour where
  fresh := .live
  heardUs := s.nowUs
  period := max 50 (min 500 p.period)
  here := p.here
  held := if p.isUnknown then old.elim [] Neighbour.held else p.held
  claim := if p.isUnknown then old.bind Neighbour.claim else p.claim

/-- The peer's heard mark is set, when it is in the evidence set of a claim in LISTEN (R48). -/
def markHeard (peer : Nat) (s : State) : State :=
  match s.zone.claim with
  | some ⟨it, .listen start ev⟩ =>
    withClaim (some ⟨it, .listen start (ev.map fun e => if e.peer = peer then { e with heard := true } else e)⟩) s
  | _ => s

/-- A claim in LISTEN is withdrawn by what a peer's entry shows (R50). -/
def withdrawClaim (peer : Nat) (n : Neighbour) (s : State) : State :=
  match s.zone.claim with
  | some ⟨it, .listen start ev⟩ =>
    if n.held.any (fun h => h.conflicts it) ||
        (n.claim.any (fun c => c.conflicts it) && decide (peer < s.cfg.vehicleId)) then
      withClaim (some ⟨it, .waiting⟩) s
    else withClaim (some ⟨it, .listen start ev⟩) s
  | _ => s

/-- An accepted POSE from vehicle `peer` (R37, R38, R48 to R52). -/
def takePose (peer : Nat) (p : PoseBody) (s : State) : State :=
  let n := entryFromPose s (neighbourOf s peer) p
  tableChanged (withdrawClaim peer n (markHeard peer (setNeighbour peer (some n) s)))

/-- The age of an entry, in ms (R39). -/
def ageMs (s : State) (n : Neighbour) : Nat :=
  (s.nowUs - n.heardUs) / 1000

/-- The state that an entry's age gives it (R39). -/
def freshnessOf (s : State) (n : Neighbour) : Freshness :=
  if s.cfg.lossTime ≤ ageMs s n then .lost
  else if 3 * n.period ≤ ageMs s n then .stale
  else .live

/-- A peer whose entry has become LOST leaves the evidence set (R51). -/
def dropEvidence (peer : Nat) (s : State) : State :=
  match s.zone.claim with
  | some ⟨it, .listen start ev⟩ => withClaim (some ⟨it, .listen start (ev.filter fun e => e.peer != peer)⟩) s
  | _ => s

/-- A CLEAR(PEER) as the Zone Controller takes it (R40): a LOST entry becomes ABSENT. -/
def clearNeighbour (peer : Nat) (s : State) : State :=
  match neighbourOf s peer with
  | some n => if n.fresh = .lost then tableChanged (setNeighbour peer none s) else s
  | none => s

/-! ### The meanings -/

/-- ANNOUNCE_TIMER_EXPIRY (R44): a periodic POSE. The POSE at once that another change might call for is not moved by
it. -/
def execAnnounceTimerExpiry (dt : Nat) (s : State) : Out :=
  event dt (fun s =>
    match s.zone.announceDue with
    | some t =>
      if s.startUp.run = .run ∧ t ≤ s.nowUs then
        offerPose (withZone { s.zone with announceDue := some (t + s.cfg.announcePeriod * 1000) } s)
      else s
    | none => s) s

/-- NEIGHBOUR_AGEING (R39, R51): the entry's state follows from its age, in INHIBIT and RUN. -/
def execNeighbourAgeing (dt peer : Nat) (s : State) : Out :=
  event dt (fun s =>
    match neighbourOf s peer with
    | some n =>
      let f := freshnessOf s n
      if s.startUp.run = .loading ∨ f = n.fresh then s
      else
        let s := setNeighbour peer (some { n with fresh := f }) s
        tableChanged (if f = .lost then dropEvidence peer s else s)
    | none => s) s

/-- CLAIM_WINDOW_EXPIRY (R52): the claim in LISTEN is tested once its window has passed. -/
def execClaimWindowExpiry (dt : Nat) (s : State) : Out :=
  event dt (fun s =>
    match s.zone.claim with
    | some ⟨_, .listen _ _⟩ => claimTest s
    | _ => s) s

end Sys2Proof.Machine
end

