-- ==== Sys2Proof/Machine/Path.lean ====
section
/-! DEFINITION. The Path Tracker (01_position_and_path.md): odometer and speed captures, tag records, installations, boundary
crossings and tag misses, and the commands ENC_EDGE, CAPTURE_OVERFLOW, TAG_RECORD, TAG_IDLE_TIMEOUT,
TAG_CHARACTER_ERROR and TAG_EXCESS_CHARACTERS. The order in which one event reaches the other blocks is that of R1, R2,
R9 and R11. -/

namespace Sys2Proof.Machine

/-! ### Faults of the Path Tracker (R16) -/

/-- OVERRUN or POSITION_CONFLICT is raised: a safety stop, and the end of a RECOVER grant (R12, R16). -/
def pathFault (c : StopCause) (s : State) : State :=
  let s' := raiseStop c s
  setTag (withPath { s'.path with recover := false } s')

/-! ### Boundary crossings and tag misses (R9, R10) -/

/-- The window after a crossing into the next item, which was `held` or not. -/
def crossedWindow (w : PathWindow) (n : NextStretch) (held : Bool) : PathWindow :=
  { w with here := n.item, next := none, capHere := w.capNext, load := false, scene := 0, confirmed := held }

/-- A crossing with its boundary mark `mark` (R9, R55): an item not held raises `c`, then the crossing goes to the Zone
Controller, the Cue Engine and the Restraint Monitor. -/
def crossBoundary (c : StopCause) (mark : Nat) (w : PathWindow) (n : NextStretch) (s : State) : State :=
  let held := s.holds n.item
  let moved := withPath { s.path with window := some (crossedWindow w n held) } s
  let raised := if held then moved else pathFault c moved
  restraintsAtWindow (evaluate none (zoneAtCrossing w.here n.item mark (setCap (setTag raised))))

/-- The boundary test (R9). -/
def boundaryTest (s : State) : State :=
  match s.path.window with
  | none => s
  | some w =>
    match w.next with
    | none => s
    | some n => if n.mark ≤ s.path.odometer then crossBoundary .overrun n.mark w n s else s

/-- D has passed the expected-tag mark by more than the miss tolerance (R10). -/
def tagMissed (s : State) : Bool :=
  s.path.pos == .tracking &&
  (s.path.window.bind PathWindow.expected).any fun e => decide (e + s.cfg.missTolerance < s.path.odometer)

/-- The tag-miss test (R10). TAG is what R13's table gives, which under a RECOVER grant is the crawl speed and not the 0 that
R10 names (DESIGN CHOICE, notes/assumptions/37.md). -/
def missTest (s : State) : State :=
  if tagMissed s then setTag (raiseFault .tagMiss (withPath { s.path with pos := .adrift } s)) else s

/-! ### The odometer and the measured speed (R1 to R3) -/

/-- An odometer update (R1): the Path Tracker's own tests, and then the Motion Governor, which reads CAP, the Zone
Controller, the Restraint Monitor and the Cue Engine. -/
def odometerUpdate (s : State) : State :=
  evaluate none (setLoad (zoneAtOdometer (setCap (missTest (boundaryTest s)))))

/-- The odometer and its remainder after one edge (R1). -/
def travelled (pitch : Nat) (p : PathState) : PathState :=
  { p with
    remainder := (p.remainder + pitch) % 1000
    odometer := min 4294967295 (p.odometer + (p.remainder + pitch) / 1000) }

/-- One edge adds the encoder pitch; an edge that changes the odometer is an odometer update (R1). -/
def addTravel (s : State) : State :=
  let p := travelled s.cfg.encoderPitch s.path
  if p.odometer = s.path.odometer then withPath p s else odometerUpdate (withPath p s)

/-- A speed capture of `v` mm/s (R2), handed to the Motion Governor, the Zone Controller, the Restraint Monitor and the
Cue Engine. -/
def speedCapture (v : Nat) (s : State) : State :=
  let s := governorTests (setCap (withPath { s.path with speed := v } s))
  evaluate none (startHold (setLoad (standstillChange (setZone s))))

/-- The speed that a period of `period` µs over 2^n edges gives (R2). -/
def capturedSpeed (pitch n period : Nat) : Nat :=
  if period = 0 then 4000 else min 4000 (pitch * 2 ^ n * 1000 / period)

/-- One edge as the speed capture takes it (R2). -/
def countEdge (s : State) : State :=
  match s.path.capture with
  | none => withPath { s.path with capture := some ⟨s.nowUs, 0⟩ } s
  | some r =>
    if r.count + 1 < 2 ^ s.cfg.encoderDivider then
      withPath { s.path with capture := some ⟨r.timeUs, r.count + 1⟩ } s
    else
      speedCapture (capturedSpeed s.cfg.encoderPitch s.cfg.encoderDivider (s.nowUs - r.timeUs))
        (withPath { s.path with capture := some ⟨s.nowUs, 0⟩ } s)

/-- The overflow timer starts anew for 65,535 µs (R3). -/
def restartOverflow (s : State) : State :=
  withPath { s.path with overflowDue := some (s.nowUs + 65535) } s

/-! ### Tags (R5 to R8, R11) -/

/-- The window that a good tag installs at odometer value `d` (R11). -/
def installedWindow (d : Nat) (t : GoodTag) (confirmed : Bool) : PathWindow where
  here := t.here
  next := some ⟨t.next, markAt d t.boundary⟩
  capHere := t.capHere
  capNext := t.capNext
  load := t.load
  scene := t.scene
  expected := if t.nextTag = 0 then none else some (markAt d t.nextTag)
  confirmed := confirmed

/-- The report of an entry into a LOAD stretch (R11, R118, R141, R155). -/
def loadStretchEntry (s : State) : State :=
  invalidateCache (restraintsAtLoad (cuesAtLoad s))

/-- A cue mark of the tag is armed, unless it names no cue (R11 step 3). -/
def armMark (d : Nat) (m : CueMark) (s : State) : State :=
  if m.cue = 0 then s else armCue m.cue (markAt d m.distance) .tag none s

/-- A good tag is installed (R11). -/
def installTag (t : GoodTag) (confirmed : Bool) (s : State) : State :=
  let d := s.path.odometer
  let entered := t.load && !(s.path.window.any PathWindow.load)
  let placed := withPath { s.path with
    window := some (installedWindow d t confirmed), lastTag := some t.number, pos := .tracking } s
  let handed := evaluate none (restraintsAtWindow (zoneAtInstall (boundaryTest (setCap (setTag placed)))))
  let handed := if entered then loadStretchEntry handed else handed
  armMark d t.markB (armMark d t.markA handed)

/-- A first tag after UNKNOWN (R8, R57). -/
def firstTag (t : GoodTag) (s : State) : State :=
  if s.isBlocked t.here then pathFault .positionConflict s else installTag t false s

/-- A tag that names neither the here item nor a next item still ahead (R7 case 3). -/
def wrongTag (s : State) : State :=
  pathFault .positionConflict (withPath { s.path with pos := .adrift } s)

/-- A good tag in TRACKING or ADRIFT, judged by its here item (R7). -/
def laterTag (t : GoodTag) (s : State) : State :=
  match s.path.window with
  | none => wrongTag s
  | some w =>
    if t.here = w.here then installTag t w.confirmed s
    else
      match w.next with
      | none => wrongTag s
      | some n =>
        if t.here = n.item ∧ s.path.odometer < n.mark then
          let crossed := crossBoundary .positionConflict s.path.odometer w n s
          installTag t (crossed.path.window.any PathWindow.confirmed) crossed
        else wrongTag s

/-- A repeat read (R6). -/
def isRepeat (t : GoodTag) (p : PathState) : Bool :=
  p.lastTag == some t.number && p.pos == .tracking

/-- A good tag (R6 to R8). -/
def takeTag (t : GoodTag) (s : State) : State :=
  if isRepeat t s.path then s
  else
    match s.path.pos with
    | .unknown => firstTag t s
    | _ => laterTag t s

/-! ### The tag receiver (R4) -/

/-- The first character of a record came `since` µs ago: it begins a record when TAG had then been idle for 2 ms. -/
def recordBegan (since : Nat) (s : State) : Bool :=
  s.startUp.run == .run && decide (s.path.receiver.idleSince + 2000 + since ≤ s.nowUs)

def withReceiver (r : TagReceiver) (s : State) : State :=
  withPath { s.path with receiver := r } s

/-! ### The meanings -/

/-- ENC_EDGE (R1, R2, R3): edges are counted in RUN only (R18). -/
def execEncEdge (dt : Nat) (s : State) : Out :=
  event dt (fun s => if s.startUp.run = .run then countEdge (addTravel (restartOverflow s)) else s) s

/-- CAPTURE_OVERFLOW (R3). -/
def execCaptureOverflow (dt : Nat) (s : State) : Out :=
  event dt (fun s =>
    if s.startUp.run = .run ∧ s.isDue s.path.overflowDue = true then
      speedCapture 0 (withPath { s.path with capture := none, overflowDue := none } s)
    else s) s

/-- TAG_RECORD (R4, R5): the twentieth character completes the record, which is judged at once. -/
def execTagRecord (dt span : Nat) (bytes : Vector Byte 20) (s : State) : Out :=
  event dt (fun s =>
    if recordBegan span s then
      let s := withReceiver ⟨s.nowUs, true, false⟩ s
      match goodTag bytes with
      | some t => takeTag t s
      | none => countTagError s
    else s) s

/-- TAG_IDLE_TIMEOUT (R4): 2 ms of idle line after the last character of a record that is not complete. -/
def execTagIdleTimeout (dt span : Nat) (s : State) : Out :=
  event dt (fun s =>
    if recordBegan (span + 2000) s then countTagError (withReceiver ⟨s.nowUs - 2000, false, false⟩ s) else s) s

/-- TAG_CHARACTER_ERROR (R4): a parity error or a low stop bit in a record. -/
def execTagCharacterError (dt span : Nat) (s : State) : Out :=
  event dt (fun s =>
    if recordBegan span s then countTagError (withReceiver ⟨s.nowUs, false, false⟩ s) else s) s

/-- TAG_EXCESS_CHARACTERS (R4): characters after the twentieth before 2 ms of idle line count once together. -/
def execTagExcessCharacters (dt : Nat) (s : State) : Out :=
  event dt (fun s =>
    let r := s.path.receiver
    if s.startUp.run = .run ∧ r.afterRecord = true ∧ s.nowUs < r.idleSince + 2000 then
      let s := withReceiver ⟨s.nowUs, true, true⟩ s
      if r.excessCounted then s else countTagError s
    else s) s

end Sys2Proof.Machine
end

