-- ==== Sys2Proof/Machine/Steering.lean ====
section
/-! DEFINITION. The Steering Controller (06_steering.md): working limits, the steering law, the guide state and the GUIDE
entry, and the command GUIDE_LOSS_EXPIRY. SERVO_FRAME_START, which also triggers a scan, is in Scanner.lean. -/

namespace Sys2Proof.Machine

def withSteering (x : SteeringState) (s : State) : State :=
  { s with steering := x }

/-- The three working values (R94). -/
def workingLimits (c : ConfigImage) : WorkingLimits :=
  let low := min c.steeringMinimum c.steeringMaximum
  let high := max c.steeringMinimum c.steeringMaximum
  ⟨low, high, max low (min high c.steeringCentre)⟩

/-- The working values in use, formed when the run state became RUN. -/
def workingOf (s : State) : WorkingLimits :=
  s.steering.working.getD (workingLimits s.cfg)

/-! ### The steering law (R95 to R99) -/

/-- A weak frame (R95). -/
def isWeak (minimum l r : Nat) : Bool :=
  decide (l + r < minimum ∨ l + r = 0)

/-- An integer brought into the range `lo` to `hi`. -/
def limitTo (lo hi n : Int) : Int :=
  max lo (min hi n)

/-- The lateral offset of a good frame, in mm, rounded toward zero (R96). -/
def lateralOffset (range l r : Nat) : Int :=
  limitTo (-range) range ((((l : Int) - r) * range).tdiv ((l : Int) + r))

/-- The raw width (R97). -/
def rawWidth (centre kp kd : Nat) (offset previous : Int) : Int :=
  centre + kp * offset + (kd * (offset - previous)).tdiv 20

/-- The raw width limited to the working limits and then slewed from the width in force (R98). -/
def nextWidth (w : WorkingLimits) (slew width : Nat) (raw : Int) : Nat :=
  (limitTo ((width : Int) - slew) ((width : Int) + slew) (limitTo w.low w.high raw)).toNat

/-- A good frame is held while the measured speed and the drive target are both 0 (R99). -/
def frameHeld (s : State) : Bool :=
  s.path.speed == 0 && s.governor.target == 0

/-- A good frame steers, or is held, and its offset becomes the last offset (R96 to R99). -/
def steerBy (l r : Nat) (s : State) : State :=
  let offset := lateralOffset s.cfg.guideRange l r
  let raw := rawWidth (workingOf s).centre s.cfg.kp s.cfg.kd offset (s.steering.lastOffset.getD offset)
  withSteering { s.steering with
    lastOffset := some offset
    pendingWidth :=
      if frameHeld s then s.steering.pendingWidth
      else some (nextWidth (workingOf s) s.cfg.slew s.steering.width raw) } s

/-! ### The guide state (R100, R101) -/

def guideGood (s : State) : State :=
  setLimit .guide 4000 (withSteering { s.steering with guide := .good, weakCount := 0, lossDue := none } s)

def guideWeak (s : State) : State :=
  match s.steering.guide with
  | .good =>
    withSteering { s.steering with
      guide := .fading, weakCount := 1, lossDue := some (s.afterMs s.cfg.guideLossTime) } s
  | .fading =>
    if s.steering.weakCount < 2 then withSteering { s.steering with weakCount := 2 } s
    else setLimit .guide s.cfg.crawlSpeed (withSteering { s.steering with guide := .weak, weakCount := 3 } s)
  | .weak => s
  | .lost => s

/-- A GUIDE record is delivered (R88, R95, R100). -/
def guideDelivered (l r : Nat) (s : State) : State :=
  if isWeak s.cfg.guideMinimum l r then guideWeak s else guideGood (steerBy l r s)

/-- A frame start (R93): the pending width comes into force. The next frame starts 20,000 µs after `due`, at which this
one was to start. -/
def frameStarts (due : Nat) (s : State) : State :=
  withSteering { s.steering with
    width := s.steering.pendingWidth.getD s.steering.width
    pendingWidth := none
    frameStart := some s.nowUs
    frameDue := some (due + 20000) } s

/-! ### The meanings -/

/-- GUIDE_LOSS_EXPIRY (R101). -/
def execGuideLossExpiry (dt : Nat) (s : State) : Out :=
  event dt (fun s =>
    if s.isDue s.steering.lossDue then
      raiseFault .guideLost
        (setLimit .guide 0 (withSteering { s.steering with guide := .lost, weakCount := 3, lossDue := none } s))
    else s) s

end Sys2Proof.Machine
end

