-- ==== Sys2Proof/Machine/Scanner.lean ====
section
/-! DEFINITION. The Analog Scanner and the latch inputs (05_analog_scanner_and_input_lines.md): triggers and their
arbitration, the end of a scan, latch settling, and the commands RESTRAINT_SCAN_TIMER_EXPIRY, SCAN_END, LATCH_EDGE,
LATCH_SETTLE_EXPIRY and SERVO_FRAME_START. -/

namespace Sys2Proof.Machine

def withScanner (x : ScannerState) (s : State) : State :=
  { s with scanner := x }

/-! ### Scan lists (R83, R86, R87) -/

inductive ScanList where
  | guide | restraint
  deriving DecidableEq, Repr

def listState (l : ScanList) (x : ScannerState) : ListState :=
  match l with
  | .guide => x.guideList
  | .restraint => x.restraintList

def setList (l : ScanList) (v : ListState) (s : State) : State :=
  match l with
  | .guide => withScanner { s.scanner with guideList := v } s
  | .restraint => withScanner { s.scanner with restraintList := v } s

/-- How long a scan of the list takes, in µs: 10 for each channel (R82, R83). -/
def scanTime (c : ConfigImage) (l : ScanList) : Nat :=
  match l with
  | .guide => 20
  | .restraint => c.restraintCount * 10

/-- The list's scan starts: it becomes RUNNING and the converter BUSY. -/
def beginScan (l : ScanList) (s : State) : State :=
  let s' := setList l .running s
  withScanner { s'.scanner with scanDue := some (s.nowUs + scanTime s.cfg l) } s'

/-- A trigger reaches a list (R86); outside RUN it is ignored and not counted (R92). -/
def trigger (l : ScanList) (s : State) : State :=
  if s.startUp.run = .run then
    match listState l s.scanner with
    | .idle => if s.scanner.scanDue.isNone then beginScan l s else setList l .pending s
    | .pending => countScanOverrun s
    | .running => countScanOverrun s
  else s

/-- Steps 3 and 4 of R87: the list becomes IDLE, the converter FREE, and a PENDING list starts, GUIDE before
RESTRAINT. -/
def releaseConverter (l : ScanList) (s : State) : State :=
  let s := setList l .idle s
  let s := withScanner { s.scanner with scanDue := none } s
  if s.scanner.guideList = .pending then beginScan .guide s
  else if s.scanner.restraintList = .pending then beginScan .restraint s
  else s

/-- The GUIDE scan ends (R87, R88): channel 8 is L and channel 9 is R. -/
def endGuideScan (channels : Vector Conversion 10) (s : State) : State :=
  let l := channels[8].toNat
  let r := channels[9].toNat
  releaseConverter .guide (guideDelivered l r (withScanner { s.scanner with guideResult := some (l, r) } s))

/-- The RESTRAINT scan ends (R87, R88): channels 0 to restraint count − 1. -/
def endRestraintScan (channels : Vector Conversion 10) (s : State) : State :=
  let positions := (channels.toList.take s.cfg.restraintCount).map BitVec.toNat
  releaseConverter .restraint
    (recordDelivered positions (withScanner { s.scanner with restraintResult := some positions } s))

/-! ### Latches (R89) -/

def latchOf (s : State) (i : Nat) : LatchInput :=
  s.scanner.latches.getD (i - 1) ⟨false, .opened, none⟩

def setLatch (i : Nat) (x : LatchInput) (s : State) : State :=
  withScanner { s.scanner with latches := s.scanner.latches.setIfInBounds (i - 1) x } s

/-- The raw state of latch `i`: its line read through its closed level. -/
def rawLatch (c : ConfigImage) (i : Nat) (high : Bool) : LatchState :=
  if high = c.latchPolarity.getLsbD (i - 1) then .closed else .opened

/-- Latch `i` is watched: in RUN, when it is no greater than the restraint count. -/
def isWatched (s : State) (i : Nat) : Bool :=
  s.startUp.run == .run && decide (1 ≤ i ∧ i ≤ s.cfg.restraintCount)

/-- An edge on the line of latch `i`: the level changes in every run state, and the settle timer of a watched latch
restarts from 20 ms. -/
def latchEdge (i : Nat) (high : Bool) (s : State) : State :=
  let x := latchOf s i
  if x.high = high ∨ i = 0 ∨ 8 < i then s
  else setLatch i { x with
    high := high
    settleDue := if isWatched s i then some (s.afterMs 20) else x.settleDue } s

/-- The settle timer of latch `i` expires. -/
def latchSettles (i : Nat) (s : State) : State :=
  let x := latchOf s i
  let raw := rawLatch s.cfg i x.high
  if raw = x.accepted then setLatch i { x with settleDue := none } s
  else trigger .restraint (latchDelivered i raw (setLatch i { x with accepted := raw, settleDue := none } s))

/-! ### The meanings -/

/-- RESTRAINT_SCAN_TIMER_EXPIRY (R85). -/
def execRestraintScanTimerExpiry (dt : Nat) (s : State) : Out :=
  event dt (fun s =>
    match s.scanner.timerDue with
    | some t =>
      if t ≤ s.nowUs then
        trigger .restraint (withScanner { s.scanner with
          timerDue := some (t + s.cfg.restraintScanPeriod * 1000) } s)
      else s
    | none => s) s

/-- SCAN_END (R87). -/
def execScanEnd (dt : Nat) (channels : Vector Conversion 10) (s : State) : Out :=
  event dt (fun s =>
    if s.isDue s.scanner.scanDue then
      if s.scanner.guideList = .running then endGuideScan channels s else endRestraintScan channels s
    else s) s

/-- LATCH_EDGE (R89). -/
def execLatchEdge (dt latch : Nat) (high : Bool) (s : State) : Out :=
  event dt (latchEdge latch high) s

/-- LATCH_SETTLE_EXPIRY (R89). -/
def execLatchSettleExpiry (dt latch : Nat) (s : State) : Out :=
  event dt (fun s =>
    if isWatched s latch ∧ s.isDue (latchOf s latch).settleDue = true then latchSettles latch s else s) s

/-- SERVO_FRAME_START (R93): the pending width comes into force and the GUIDE list is triggered. -/
def execServoFrameStart (dt : Nat) (s : State) : Out :=
  event dt (fun s =>
    match s.steering.frameDue with
    | some t => if t ≤ s.nowUs then trigger .guide (frameStarts t s) else s
    | none => s) s

end Sys2Proof.Machine
end

