-- ==== Sys2Proof/Machine/Delivery.lean ====
section
/-! DEFINITION. The end of a content read (R126): judging a directory entry, delivering the data to each requester, and
going on to the next read; the command READ_COMPLETE. -/

namespace Sys2Proof.Machine

/-- The clip entry in the first 8 bytes of the data, or nothing when it is unusable (R126). -/
def clipEntryOf (data : BlockData) : Option ClipEntry :=
  let e := parseClipEntry (data.toList.take 8)
  if e.usable then some e else none

/-- The cue entry in the first 32 bytes of the data, or nothing when it is unusable (R126). -/
def cueEntryOf (data : BlockData) : Option CueEntry :=
  parseCueEntry (data.toList.take 32)

/-- What a target's data holds is usable: a block always, a directory entry when R126 step 1 finds it so. -/
def isUsable (t : Target) (data : BlockData) : Bool :=
  match t with
  | .block _ => true
  | .clipEntry _ => (clipEntryOf data).isSome
  | .cueEntry _ => (cueEntryOf data).isSome

/-- The data of a finished read goes to one requester. -/
def deliverTo (t : Target) (data : BlockData) (r : Requester) (s : State) : State :=
  match r, t with
  | .voice v, .block b => blockDelivered (.voice v) b data s
  | .pin p, .block b => blockDelivered (.pin p) b data s
  | .voice v, .clipEntry _ => clipEntryToVoice v (clipEntryOf data) s
  | .pin p, .clipEntry _ => clipEntryToPin p (clipEntryOf data) s
  | .record cue mark, .cueEntry _ => cueEntryDelivered cue mark (cueEntryOf data) s
  | _, _ => s

/-- The requesters that still wait for the data being handed out. -/
def ContentState.undelivered (c : ContentState) : List Waiter :=
  match c.reader with
  | .delivering rest => rest
  | _ => []

/-- One requester's turn in step 2 of R126: it is passed over when it has been withdrawn meanwhile. -/
def deliverTurn (t : Target) (data : BlockData) (s : State) (w : Waiter) : State :=
  if s.content.undelivered.contains w then
    deliverTo t data w.who
      (withContent { s.content with reader := .delivering (s.content.undelivered.filter fun x => x != w) } s)
  else s

/-- A finished read, whole (R126). -/
def finishRead (t : Target) (waiters : List Waiter) (data : BlockData) (s : State) : State :=
  let order := deliveryOrder t waiters
  let judged := if isUsable t data then s else countContentError s
  let given := order.foldl (deliverTurn t data)
    (withContent { judged.content with reader := .delivering order } judged)
  startRead (withContent { given.content with reader := .idle } given)

/-! ### The meanings -/

/-- READ_COMPLETE (R126). -/
def execReadComplete (dt : Nat) (data : BlockData) (s : State) : Out :=
  event dt (fun s =>
    match s.content.reader with
    | .reading t waiters done => if done ≤ s.nowUs then finishRead t waiters data s else s
    | _ => s) s

end Sys2Proof.Machine
end

