-- ==== Sys2Proof/Machine/Channel.lean ====
section
/-! DEFINITION. The Channel Interface (02_the_ride_channel.md): judging a received frame, the head of the queue and its
attempts, give-ups, DEAF and the CHANNEL entry, and the commands ATTEMPT_START, ATTEMPT_SUCCESS, COLLISION,
RETRY_WAIT_EXPIRY, DEAF_TIMER_EXPIRY, CD_RISE, CD_FALL, FRAME_DISCARDED and DUPLICATE_ID. -/

namespace Sys2Proof.Machine

def withChannel (c : ChannelState) (s : State) : State :=
  { s with channel := c }

/-! ### Judging a received frame (R21 to R23) -/

/-- What becomes of the bytes on RXD: they are not heard as an incoming frame, they are discarded, they show a duplicate
identity, or they are an accepted frame. -/
inductive FrameJudgement where
  | notHeard
  | discarded
  | duplicate
  | accepted (frame : RawFrame) (body : RxBody)
  deriving DecidableEq, Repr

/-- The source test (R23). A source byte above 63 is no station identity and is discarded too
(notes/assumptions/10.md). -/
def sourceAllowed (source : Nat) : Bool :=
  decide ((1 ≤ source ∧ source ≤ 31) ∨ (48 ≤ source ∧ source ≤ 63))

/-- The destination test (R23). -/
def destAllowed (s : State) (dest : Nat) : Bool :=
  dest == 0 || (s.startUp.run == .run && dest == s.cfg.vehicleId)

/-- The addressing test (R23): CHECK, DISPATCH, QUERY and RESTART are never broadcast. -/
def addressingAllowed (kind dest : Nat) : Bool :=
  !(dest == 0 && (kind == 4 || kind == 6 || kind == 10 || kind == 12))

/-- The kind-by-source test (R23): POSE, VERDICT and STATUS come from vehicles; SYNC, CHECK, DISPATCH, CLEAR, HOLDALL,
RESUME, QUERY and RESTART from wayside stations. -/
def kindBySourceAllowed (kind source : Nat) : Bool :=
  if source ≤ 31 then
    !(kind == 3 || kind == 4 || kind == 6 || kind == 7 || kind == 8 || kind == 9 || kind == 10 || kind == 12)
  else !(kind == 1 || kind == 5 || kind == 11)

/-- The repeat test (R23): the sequence number equals the last one recorded for this source. -/
def isRepeatFrame (s : State) (f : RawFrame) : Bool :=
  s.channel.lastSeq.getD f.source none == some f.seq

/-- The tests of R23 on the header. -/
def headerAllowed (s : State) (f : RawFrame) : Bool :=
  sourceAllowed f.source && destAllowed s f.dest && addressingAllowed f.kind f.dest &&
  kindBySourceAllowed f.kind f.source && !isRepeatFrame s f

/-- A frame with a good CRC, judged under R22 and R23. -/
def judgeGood (s : State) (f : RawFrame) : FrameJudgement :=
  if s.startUp.run = .run ∧ f.source = s.cfg.vehicleId then .duplicate
  else if headerAllowed s f then
    match parseBody f.kind f.body with
    | some b => .accepted f b
    | none => .discarded
  else .discarded

/-- The bytes since CD rose are enough to end the frame (R21): the first is no preamble, the length field is above 40, or
body and CRC are complete. -/
def frameEnds (bytes : List Byte) : Bool :=
  match bytes with
  | [] => false
  | first :: _ =>
    first != preamble || decide (6 ≤ bytes.length ∧ (40 < byteAt bytes 5 ∨ 8 + byteAt bytes 5 ≤ bytes.length))

/-- The bytes of a frame on RXD, judged (R21 to R23). They are heard only while a frame is being assembled, which a rise of
CD begins and its fall ends, and only when they end the frame; in LOADING nothing is received, and while an attempt is in
progress they are its echo. -/
def judgeFrame (s : State) (bytes : List Byte) : FrameJudgement :=
  if s.startUp.run = .loading ∨ s.channel.attempt.isSome ∨ s.channel.receiver ≠ .assembling ∨ frameEnds bytes = false then
    .notHeard
  else
    match goodFrame bytes with
    | some f => judgeGood s f
    | none => .discarded

/-- After a frame RXD is ignored until CD has fallen and risen again (R21). -/
def receiverDone (s : State) : State :=
  withChannel { s.channel with
    receiver := if s.channel.cdLowSince.isSome then .awaitingCarrier else .ignoring } s

/-! ### The CHANNEL entry and DEAF (R33, R34) -/

def setChannel (s : State) : State :=
  setLimit .channel (if s.channel.deaf || s.channel.txFail then 0 else 4000) s

/-- The deaf timer starts for the loss time (R24, R33). -/
def startDeafTimer (s : State) : State :=
  withChannel { s.channel with deafDue := some (s.afterMs s.cfg.lossTime) } s

def RxBody.isPose : RxBody → Bool
  | .pose _ => true
  | _ => false

/-- Steps 1 to 3 of R24 for an accepted frame. The claim is tested when DEAF ends, but for a POSE only after the entry of
its sender has been updated (R53). -/
def acceptFrame (f : RawFrame) (b : RxBody) (s : State) : State :=
  let s := receiverDone (startDeafTimer s)
  let heard :=
    if s.channel.deaf then
      let s := setChannel (withChannel { s.channel with deaf := false } s)
      if b.isPose then s else claimTest s
    else s
  withChannel { heard.channel with lastSeq := heard.channel.lastSeq.setIfInBounds f.source (some f.seq) } heard

/-- A frame that is accepted goes through R24 and then to its owner, which `own` is; any other bytes leave the part as it
is (notes/assumptions/11.md). -/
def onAccepted (bytes : List Byte) (own : RawFrame → RxBody → State → Option State) (s : State) : State :=
  match judgeFrame s bytes with
  | .accepted f b => (own f b (acceptFrame f b s)).getD s
  | _ => s

/-! ### The head of the queue and its access wait (R26, R29) -/

/-- The lowest class present in a queue. -/
def lowestClass (q : List TxFrame) : Nat :=
  q.foldl (fun k f => min k f.body.cls) 3

/-- The head: the oldest frame of the lowest class. -/
def headOf (q : List TxFrame) : Option TxFrame :=
  q.find? fun f => f.body.cls == lowestClass q

/-- The identity slot, in µs. -/
def identitySlot (s : State) : Nat :=
  s.cfg.vehicleId % 16 * 20

/-- The access wait of a frame, in µs. -/
def accessWait (s : State) (f : TxFrame) : Nat :=
  200 + f.body.cls * 100 + identitySlot s

def TxFrame.isRetrying (f : TxFrame) : Bool :=
  match f.status with
  | .retrying _ => true
  | _ => false

def TxFrame.isOnAir (f : TxFrame) : Bool :=
  match f.status with
  | .onAir => true
  | _ => false

/-- The frame whose attempt may start now (R29). -/
def readyHead (s : State) : Option TxFrame :=
  if s.startUp.run = .run ∧ s.channel.attempt.isNone ∧ s.channel.queue.all (fun f => !f.isRetrying) then
    match headOf s.channel.queue, s.channel.cdLowSince with
    | some f, some t => if t + accessWait s f ≤ s.nowUs then some f else none
    | _, _ => none
  else none

/-! ### Attempts (R25, R30 to R32) -/

/-- The first element that satisfies `p`, changed by `f`. -/
def updateFirst {α : Type} (p : α → Bool) (f : α → α) : List α → List α
  | [] => []
  | x :: xs => if p x then f x :: xs else x :: updateFirst p f xs

/-- An attempt starts for the head `f` (R25, R30): it takes its sequence number from the counter at its first
attempt. -/
def startAttempt (f : TxFrame) (s : State) : State :=
  let c := s.channel
  let seq := f.seq.getD c.seqCounter
  let sent : TxFrame := { f with attempts := f.attempts + 1, seq := some seq, status := .onAir }
  withChannel { c with
    seqCounter := if f.seq.isNone then (c.seqCounter + 1) % 256 else c.seqCounter
    queue := updateFirst (fun x => x.body.cls == lowestClass c.queue) (fun _ => sent) c.queue
    attempt := some ⟨s.nowUs, encodeFrame s.cfg.vehicleId f.dest seq f.body⟩ } s

/-- The pending POSE is offered as a new POSE (R27). -/
def offerPending (s : State) : State :=
  match s.channel.pendingPose with
  | some p => offerFrame 0 (.pose p) (withChannel { s.channel with pendingPose := none } s)
  | none => s

/-- A sent POSE ends the run of give-ups and the TX_FAIL condition, and a DISPATCH_REFUSED flag that it carried (R30, R32,
R43). -/
def poseSent (p : PoseBody) (s : State) : State :=
  let s := setChannel (withChannel { s.channel with poseGiveUps := 0, txFail := false } s)
  withZone { s.zone with refusedPending := s.zone.refusedPending && !p.isRefused } s

/-- The frame under transmission leaves the queue, and the attempt ends. -/
def endAttempt (s : State) : State :=
  withChannel { s.channel with
    attempt := none, queue := s.channel.queue.filter fun f => !f.isOnAir } s

/-- Success of the attempt of `f` (R30). -/
def attemptSucceeds (f : TxFrame) (s : State) : State :=
  let s := receiverDone (endAttempt s)
  offerPending (match f.body with
    | .pose p => poseSent p s
    | _ => s)

/-- A POSE is given up: the fifth in a row raises TX_FAIL (R32). -/
def poseGivenUp (s : State) : State :=
  let s := withChannel { s.channel with poseGiveUps := s.channel.poseGiveUps + 1 } s
  if s.channel.poseGiveUps = 5 then
    raiseFault .txFail (setChannel (withChannel { s.channel with txFail := true } s))
  else s

/-- The frame whose third attempt collided is given up (R32). -/
def giveUp (f : TxFrame) (s : State) : State :=
  let s := countTxGiveUp (endAttempt s)
  offerPending (if f.body.isPose then poseGivenUp s else s)

/-- The collided frame stays for a retry, and the pending POSE takes its place in the queue (R27, R31). -/
def retryFrame (f : TxFrame) (s : State) : State :=
  let wait := f.attempts * 2000 + identitySlot s
  let waiting (x : TxFrame) : TxFrame :=
    if x.isOnAir then { x with status := .retrying (s.nowUs + wait) } else x
  let q := s.channel.queue.map waiting
  withChannel { s.channel with
    attempt := none
    pendingPose := none
    queue := match s.channel.pendingPose with
      | some p => replacePose p q
      | none => q } s

/-- A collision of the frame `f` under transmission (R31). The receiver goes on assembling what RXD brings since CD rose,
which is no echo from here on. -/
def collide (f : TxFrame) (s : State) : State :=
  if f.attempts < 3 then retryFrame f s else giveUp f s

/-- The retry wait of a frame ends. -/
def retryEnds (now : Nat) (f : TxFrame) : TxFrame :=
  match f.status with
  | .retrying t => if t ≤ now then { f with status := .queued } else f
  | _ => f

def onAirFrame (s : State) : Option TxFrame :=
  s.channel.queue.find? TxFrame.isOnAir

/-! ### The meanings -/

/-- ATTEMPT_START (R29, R30). -/
def execAttemptStart (dt : Nat) (s : State) : Out :=
  event dt (fun s =>
    match readyHead s with
    | some f => startAttempt f s
    | none => s) s

/-- ATTEMPT_SUCCESS (R30): each byte lasts 32 µs. -/
def execAttemptSuccess (dt : Nat) (s : State) : Out :=
  event dt (fun s =>
    match s.channel.attempt, onAirFrame s with
    | some a, some f => if a.startUs + a.bytes.length * 32 ≤ s.nowUs then attemptSucceeds f s else s
    | _, _ => s) s

/-- COLLISION (R31, R32). -/
def execCollision (dt : Nat) (s : State) : Out :=
  event dt (fun s =>
    match s.channel.attempt, onAirFrame s with
    | some _, some f => collide f s
    | _, _ => s) s

/-- RETRY_WAIT_EXPIRY (R31). -/
def execRetryWaitExpiry (dt : Nat) (s : State) : Out :=
  event dt (fun s => mapQueue (fun q => q.map (retryEnds s.nowUs)) s) s

/-- DEAF_TIMER_EXPIRY (R33). -/
def execDeafTimerExpiry (dt : Nat) (s : State) : Out :=
  event dt (fun s =>
    if s.isDue s.channel.deafDue then
      setChannel (withChannel { s.channel with deaf := true, deafDue := none } s)
    else s) s

/-- CD_RISE (R21, R29): a frame begins with the next bit, except in LOADING; the time CD has been low starts again. -/
def execCdRise (dt : Nat) (s : State) : Out :=
  event dt (fun s =>
    if s.channel.cdLowSince.isSome then
      withChannel { s.channel with
        cdLowSince := none
        receiver := if s.startUp.run = .loading then .ignoring else .assembling } s
    else s) s

/-- CD_FALL (R21, R29): a frame not yet complete is discarded, and ignoring ends. -/
def execCdFall (dt : Nat) (s : State) : Out :=
  event dt (fun s =>
    if s.channel.cdLowSince.isNone then
      withChannel { s.channel with cdLowSince := some s.nowUs, receiver := .awaitingCarrier } s
    else s) s

/-- FRAME_DISCARDED (R21, R23): no count, and no block is handed anything. -/
def execFrameDiscarded (dt : Nat) (bytes : List Byte) (s : State) : Out :=
  event dt (fun s =>
    match judgeFrame s bytes with
    | .discarded => receiverDone s
    | _ => s) s

/-- DUPLICATE_ID (R22). -/
def execDuplicateId (dt : Nat) (bytes : List Byte) (s : State) : Out :=
  event dt (fun s =>
    match judgeFrame s bytes with
    | .duplicate =>
      let s := receiverDone s
      raiseStop .duplicateId (withChannel { s.channel with lastDuplicate := some (s.rideTime : Int) } s)
    | _ => s) s

end Sys2Proof.Machine
end

