-- ==== Sys2Proof/Machine/StartUp.lean ====
section
/-! DEFINITION. Start-up and Status, the part that starts and resets the others (11_start_up_settings_and_status.md, R161 and
R162, with the reset table of every block): power-on reset, the configuration block, the entry into RUN, the warm reset,
the RESTART line, and the commands POWER_ON_RESET, CONFIG_BLOCK_LOADED, CONTENT_CHECK_DONE, RESTART_LINE_REQUEST,
RESTART_LINE_READY and RESTART_LINE_EDGE.

A timer whose first expiry a rule puts "at once" is set due at that moment; its expiry is then a command of its own
(notes/assumptions/12.md). -/

namespace Sys2Proof.Machine

def withStartUp (x : StartUpState) (s : State) : State :=
  { s with startUp := x }

/-! ### What RUN and a warm reset both start -/

/-- The announce timer starts (R44). -/
def startAnnounce (s : State) : State :=
  withZone { s.zone with
    announceDue := some (s.afterMs (s.cfg.vehicleId * 7 % s.cfg.announcePeriod)) } s

/-- The tag receiver waits for 2 ms of idle line (R18). -/
def freshReceiver (s : State) : TagReceiver :=
  ⟨s.nowUs, false, false⟩

/-- Latch `i` at the entry into RUN or at a warm reset: OPEN, with its settle timer started when it is watched (R89). -/
def freshLatch (s : State) (i : Nat) (x : LatchInput) : LatchInput :=
  ⟨x.high, .opened, if isWatched s i then some (s.afterMs 20) else none⟩

/-- The scanner's timers and latches as RUN and a warm reset start them, both lists IDLE (R85, R89, R92). -/
def startScanner (s : State) : State :=
  withScanner { s.scanner with
    guideList := .idle
    restraintList := .idle
    scanDue := none
    guideResult := none
    restraintResult := none
    timerDue := some s.nowUs
    latches := Vector.ofFn fun k : Fin 8 => freshLatch s (k.val + 1) s.scanner.latches[k] } s

/-- The Steering Controller as RUN and a warm reset start it: a frame start at once with the width at the centre (R93,
R104). -/
def startSteering (w : WorkingLimits) (s : State) : State :=
  withSteering ⟨some s.nowUs, none, some w, w.centre, none, none, .good, 0, none⟩ s

/-- The Restraint Monitor as RUN and a warm reset start it: judging WAITING for 20 ms (R105, R119). -/
def startRestraints (s : State) : State :=
  withRestraints ⟨Vector.replicate 8 Bar.reset, false, s.afterMs 20, false, false, false, none⟩ s

/-! ### Power-on reset (R161) -/

/-- The input lines keep the levels they have: power-on reset does not set them. -/
def powerOnScanner (x : ScannerState) : ScannerState :=
  { State.reset.scanner with
    latches := Vector.ofFn fun k : Fin 8 => ⟨x.latches[k].high, .opened, none⟩
    chainHigh := x.chainHigh
    restartHigh := x.restartHigh }

/-- The receiver where CD stands high: RXD is ignored until CD falls (R21, R35). -/
def restReceiver (carrierLow : Bool) : Receiver :=
  if carrierLow then .awaitingCarrier else .ignoring

def powerOnChannel (c : ChannelState) : ChannelState :=
  { State.reset.channel with
    cdLowSince := if c.cdLowSince.isSome then some 0 else none
    receiver := restReceiver c.cdLowSince.isSome }

/-- The part right after power-on reset, before the chain's first state is handed on. -/
def poweredOn (s : State) : State :=
  { State.reset with
    pending := s.pending
    scanner := powerOnScanner s.scanner
    channel := powerOnChannel s.channel }

/-- The chain's level is handed on as power-on reset ends (R72, R90). -/
def powerOn (s : State) : State :=
  if s.scanner.chainHigh then poweredOn s else raiseStop .chainOpen (poweredOn s)

/-! ### The configuration block and the entry into RUN (R161) -/

/-- The block is bad: INHIBIT, with the deaf timer started as LOADING is left (R33, R80, R161). -/
def enterInhibit (s : State) : State :=
  raiseStop .inhibit (startDeafTimer (withStartUp { s.startUp with run := .inhibit } s))

/-- A good block: its fields are clamped, and the content check is started (R161). -/
def takeConfig (raw : ConfigImage) (s : State) : State :=
  withStartUp { s.startUp with
    config := some (clampConfig raw), clamped := decide (clampConfig raw ≠ raw) } s

/-- SAFETY rises on entering RUN with no cause latched (R80). -/
def liftSafety (s : State) : State :=
  if s.governor.causes.any then s else setLimit .safety 4000 s

/-- The entry into RUN: every block starts what its chapter ties to it (R161). -/
def enterRun (s : State) : State :=
  let s := liftSafety (withStartUp { s.startUp with run := .run } s)
  let s := startAnnounce (startDeafTimer s)
  let s := withPath { s.path with receiver := freshReceiver s } s
  let s := startRestraints (startSteering (workingLimits s.cfg) (startScanner s))
  if s.cues.isSuspended then takeFaultLevels s else s

/-- The content check's result: CONTENT_BAD for BAD (R121), and the entry into RUN either way. -/
def takeCheckResult (r : CheckResult) (version : Nat) (s : State) : State :=
  let s := withContent { s.content with check := r, version := version } s
  enterRun (if r = .bad then raiseFault .contentBad s else s)

/-! ### Warm reset (R162) -/

/-- A ride time kept across a warm reset, moved back by the ride time that stood at it (R35, R128). -/
def movedBack (ride : Nat) (stamp : Int) : Int :=
  stamp - ride

/-- R35. -/
def warmChannel (s : State) : State :=
  withChannel { s.channel with
    queue := []
    attempt := none
    pendingPose := none
    lastDuplicate := s.channel.lastDuplicate.map (movedBack s.rideTime)
    receiver := restReceiver s.channel.cdLowSince.isSome } s

/-- R143, with R128: every receipt time is moved back with the ride time, that of an invalid entry too, which no rule reads
(DESIGN CHOICE, notes/assumptions/39.md). -/
def warmCues (s : State) : State :=
  withCues { s.cues with
    clocks := Vector.ofFn fun k : Fin 15 =>
      { s.cues.clocks[k] with receipt := movedBack s.rideTime s.cues.clocks[k].receipt }
    armed := []
    effects := Vector.replicate 8 .off
    hold := .none
    restraintStop := false
    safetyStop := false } s

/-- R127. -/
def warmContent (s : State) : State :=
  withContent { s.content with reader := .idle, queue := [], lastVoice := 3 } s

/-- R160, but for what the pin places offer anew. -/
def warmSound (s : State) : State :=
  mapSlots (fun _ _ x => if x.isAnyFilling then .invalid else x) (withSound { s.sound with
    voices := Vector.replicate 4 Voice.clear
    paused := false
    amp := .standby
    output := 0 } s)

/-- Ride time starts again from 0. -/
def restartRideTime (s : State) : State :=
  { s with epochUs := s.nowUs }

/-- R18. -/
def warmPath (s : State) : State :=
  withPath ⟨0, 0, none, none, 0, .unknown, none, none, false, freshReceiver s⟩ s

/-- R59. -/
def warmZone (s : State) : State :=
  startAnnounce (withZone { s.zone with hold := [], claim := none, refusedPending := false } s)

/-- The limit table after a warm reset: each owner's reset value (R18, R35, R59, R81, R104, R119, R143). -/
def warmLimits (s : State) : LimitTable :=
  { LimitTable.reset with
    channel := if s.channel.deaf || s.channel.txFail then 0 else 4000
    safety := if s.governor.causes.any then 0 else 4000 }

/-- R81. -/
def warmGovernor (s : State) : State :=
  withGovernor { s.governor with
    limits := warmLimits s
    target := 0
    rampRemainder := 0
    rampDirection := .none
    width := 0
    nextWidth := 0
    brake := if s.governor.causes.any then .stop else .hold
    standstill := .idle
    overspeedDue := none } s

/-- What a pin place lacks after a warm reset, it asks for anew (R160). Each slot that returns to FILLING is reserved anew and
so most recently used of its set, as R149 has it, though R160 has the use order kept (DESIGN CHOICE,
notes/assumptions/47.md). -/
def reofferPin (s : State) (place : Nat) : State :=
  match pinOf s place with
  | some ⟨clip, none, _⟩ =>
    let r := offerRead (.pin place) (.clipEntry clip) s
    if r.2 then r.1 else emptyPin place r.1
  | some ⟨_, some e, .filling⟩ => pinSettle place (fillPin place (fun x => x == .invalid) e s)
  | _ => s

/-- A safety stop still in force is told to the Cue Engine anew (R81, R143). -/
def tellAnew (s : State) : State :=
  if s.governor.causes.any then tellSafetyStop true s else s

/-- The warm reset, in one event. -/
def warmReset (s : State) : State :=
  let s := restartRideTime (warmCues (warmChannel s))
  let s := startRestraints (startSteering (workingOf s) (startScanner (warmZone (warmPath s))))
  tellAnew ([1, 2].foldl reofferPin (warmSound (warmContent (warmGovernor s))))

/-! ### The RESTART line (R91) -/

def withRestart (high : Bool) (since : Nat) (ready : Bool) (s : State) : State :=
  withScanner { s.scanner with restartHigh := high, restartSince := since, restartReady := ready } s

/-- The line has kept its level for 1 ms. -/
def restartSteady (s : State) : Bool :=
  decide (s.scanner.restartSince + 1000 ≤ s.nowUs)

/-- An edge: a fall of a line that has been high for 1 ms leaves it ready. -/
def restartEdge (high : Bool) (s : State) : State :=
  if s.scanner.restartHigh = high then s
  else withRestart high s.nowUs (s.scanner.restartReady || (!high && restartSteady s)) s

/-! ### The meanings -/

/-- POWER_ON_RESET (R161). -/
def execPowerOnReset (dt : Nat) (s : State) : Out :=
  event dt powerOn s

/-- CONFIG_BLOCK_LOADED (R161). -/
def execConfigBlockLoaded (dt : Nat) (bytes : List Byte) (s : State) : Out :=
  event dt (fun s =>
    if s.startUp.run = .loading ∧ s.startUp.config = none then
      if configBlockGood bytes then takeConfig (rawConfig bytes) s else enterInhibit s
    else s) s

/-- CONTENT_CHECK_DONE (R120, R161). -/
def execContentCheckDone (dt : Nat) (header clipDirectory cueDirectory : List Byte) (s : State) : Out :=
  event dt (fun s =>
    if s.startUp.run = .loading ∧ s.startUp.config.isSome then
      let r := contentCheck header clipDirectory cueDirectory
      takeCheckResult r.1 r.2 s
    else s) s

/-- RESTART_LINE_REQUEST (R91, R162): a ready line has been low for 1 ms; the request is taken in RUN. -/
def execRestartLineRequest (dt : Nat) (s : State) : Out :=
  event dt (fun s =>
    if s.scanner.restartHigh = false ∧ s.scanner.restartReady = true ∧ restartSteady s = true then
      let s := withRestart false s.scanner.restartSince false s
      if s.startUp.run = .run then warmReset s else s
    else s) s

/-- RESTART_LINE_READY (R91). -/
def execRestartLineReady (dt : Nat) (s : State) : Out :=
  event dt (fun s =>
    if s.scanner.restartHigh = true ∧ restartSteady s = true then
      withRestart true s.scanner.restartSince true s
    else s) s

/-- RESTART_LINE_EDGE (R91). -/
def execRestartLineEdge (dt : Nat) (high : Bool) (s : State) : Out :=
  event dt (restartEdge high) s

end Sys2Proof.Machine
end

