-- ==== Sys2Proof/Machine/Received.lean ====
section
/-! DEFINITION. The frames a part accepts, each as its owner takes it (02_the_ride_channel.md, "Frame kinds"): CLEAR
(R164), RESUME (R72, R78, R12) and QUERY (R166) are laid down here, the others in their owners' files. The commands
POSE_RECEIVED, CUE_RECEIVED, SYNC_RECEIVED, CHECK_RECEIVED, VERDICT_RECEIVED, DISPATCH_RECEIVED, CLEAR_FAULTS, CLEAR_PEER,
HOLDALL, RESUME, QUERY, STATUS_RECEIVED and RESTART. -/

namespace Sys2Proof.Machine

/-! ### CLEAR of target FAULTS (R163, R164, R74) -/

/-- The condition of a fault kind holds (R163). -/
def conditionHolds (s : State) : FaultKind → Bool
  | .chainOpen => s.governor.causes.chainOpen
  | .overspeed => overspeedHolds s
  | .overrun => false
  | .duplicateId => s.channel.lastDuplicate.any fun t => decide (s.elapsedSince t < s.cfg.lossTime)
  | .positionConflict => false
  | .restraint => s.anyBarFault
  | .guideLost => s.steering.guide != .good
  | .tagMiss => s.path.pos == .adrift
  | .txFail => s.channel.txFail
  | .configBad => s.startUp.run == .inhibit
  | .contentBad => s.content.check == .bad

/-- The mask selects a fault kind by the bit numbered code − 1. -/
def selects (mask : Nat) (k : FaultKind) : Bool :=
  bitOf mask (k.code - 1)

/-- A selected kind that is in the set and whose condition does not hold (R164 step 2). -/
def isRemoved (mask : Nat) (s : State) (k : FaultKind) : Bool :=
  selects mask k && s.startUp.faults.has k && !conditionHolds s k

def allFaultKinds : List FaultKind :=
  [.chainOpen, .overspeed, .overrun, .duplicateId, .positionConflict, .restraint, .guideLost, .tagMiss, .txFail,
    .configBad, .contentBad]

/-- The fault set that the CLEAR leaves. -/
def keptFaults (mask : Nat) (s : State) : FaultSet :=
  allFaultKinds.foldl (fun f k => if isRemoved mask s k then f.put false k else f) s.startUp.faults

/-- The latched causes that the CLEAR leaves: CHAIN_OPEN is not touched (R75, R164 step 3). -/
def keptCauses (mask : Nat) (s : State) : CauseSet where
  chainOpen := s.governor.causes.chainOpen
  overspeed := s.governor.causes.overspeed && !isRemoved mask s .overspeed
  overrun := s.governor.causes.overrun && !isRemoved mask s .overrun
  positionConflict := s.governor.causes.positionConflict && !isRemoved mask s .positionConflict
  duplicateId := s.governor.causes.duplicateId && !isRemoved mask s .duplicateId
  inhibit := s.governor.causes.inhibit && !isRemoved mask s .configBad

/-- A CLEAR(FAULTS) (R164). -/
def clearFaults (mask : Nat) (s : State) : State :=
  let s := if selects mask .restraint then clearRestraints s else s
  latchOnly (keptCauses mask s) (withFaults (keptFaults mask s) s)

/-! ### RESUME (R72, R78, R12) -/

/-- A RESUME that finds the chain closed ends CHAIN_OPEN (R72). -/
def endChainStop (s : State) : State :=
  if s.governor.causes.chainOpen && s.scanner.chainHigh then
    latchOnly (s.governor.causes.put false .chainOpen) (removeFault .chainOpen s)
  else s

/-- RIDE becomes 4000 when no cause is latched (R78). -/
def liftRide (s : State) : State :=
  if s.governor.causes.any then s else setLimit .ride 4000 s

/-- The RECOVER flag as the Path Tracker takes it (R12): addressed to this vehicle, in UNKNOWN or ADRIFT. -/
def takeRecover (addressed : Bool) (s : State) : State :=
  if addressed && s.path.pos != .tracking then setTag (withPath { s.path with recover := true } s) else s

def takeResume (addressed recover : Bool) (s : State) : State :=
  let s := liftRide (endChainStop s)
  if recover then takeRecover addressed s else s

/-! ### QUERY (R166) -/

/-- The STATUS of the part as it stands. -/
def buildStatus (s : State) : StatusBody where
  faults := s.startUp.faults
  first := s.startUp.first
  clamped := s.startUp.clamped
  counters := s.startUp.counters
  configId := s.cfg.configId
  contentVersion := s.content.version
  run := s.startUp.run
  underrun := s.sound.underrun

def takeQuery (source : Nat) (s : State) : State :=
  offerFrame source (.status (buildStatus s)) s

/-- A RESTART frame (R162): taken at standstill, refused while the vehicle moves. -/
def takeRestart (s : State) : State :=
  if s.startUp.run = .run ∧ s.standing = true then warmReset s else s

/-- A CUE frame (R130). -/
def takeCue (c : CueBody) (s : State) : State :=
  if c.cue = 0 then s else armCue c.cue s.path.odometer .frame c.scene s

/-! ### The meanings -/

/-- POSE_RECEIVED (R37). -/
def execPoseReceived (dt : Nat) (bytes : List Byte) (s : State) : Out :=
  event dt (onAccepted bytes fun f b s =>
    match b with
    | .pose p => some (takePose f.source p s)
    | _ => none) s

/-- CUE_RECEIVED (R130). -/
def execCueReceived (dt : Nat) (bytes : List Byte) (s : State) : Out :=
  event dt (onAccepted bytes fun _ b s =>
    match b with
    | .cue c => some (takeCue c s)
    | _ => none) s

/-- SYNC_RECEIVED (R128). -/
def execSyncReceived (dt : Nat) (bytes : List Byte) (s : State) : Out :=
  event dt (onAccepted bytes fun _ b s =>
    match b with
    | .sync scene clock => some (takeSync scene clock s)
    | _ => none) s

/-- CHECK_RECEIVED (R114). -/
def execCheckReceived (dt : Nat) (bytes : List Byte) (s : State) : Out :=
  event dt (onAccepted bytes fun f b s =>
    match b with
    | .check => some (takeCheck f.source s)
    | _ => none) s

/-- VERDICT_RECEIVED (R24): accepted, then dropped. -/
def execVerdictReceived (dt : Nat) (bytes : List Byte) (s : State) : Out :=
  event dt (onAccepted bytes fun _ b s =>
    match b with
    | .verdict => some s
    | _ => none) s

/-- DISPATCH_RECEIVED (R116). -/
def execDispatchReceived (dt : Nat) (bytes : List Byte) (s : State) : Out :=
  event dt (onAccepted bytes fun _ b s =>
    match b with
    | .dispatch => some (takeDispatch s)
    | _ => none) s

/-- CLEAR_FAULTS (R164). -/
def execClearFaults (dt : Nat) (bytes : List Byte) (s : State) : Out :=
  event dt (onAccepted bytes fun _ b s =>
    match b with
    | .clearFaults mask => some (clearFaults mask s)
    | _ => none) s

/-- CLEAR_PEER (R40, R164). -/
def execClearPeer (dt : Nat) (bytes : List Byte) (s : State) : Out :=
  event dt (onAccepted bytes fun _ b s =>
    match b with
    | .clearPeer peer => some (clearNeighbour peer s)
    | _ => none) s

/-- HOLDALL (R77). -/
def execHoldall (dt : Nat) (bytes : List Byte) (s : State) : Out :=
  event dt (onAccepted bytes fun _ b s =>
    match b with
    | .holdall => some (setLimit .ride 0 s)
    | _ => none) s

/-- RESUME (R78, R12). -/
def execResume (dt : Nat) (bytes : List Byte) (s : State) : Out :=
  event dt (onAccepted bytes fun f b s =>
    match b with
    | .resume recover => some (takeResume (f.dest != 0) recover s)
    | _ => none) s

/-- QUERY (R166). -/
def execQuery (dt : Nat) (bytes : List Byte) (s : State) : Out :=
  event dt (onAccepted bytes fun f b s =>
    match b with
    | .query => some (takeQuery f.source s)
    | _ => none) s

/-- STATUS_RECEIVED (R24): accepted, then dropped. -/
def execStatusReceived (dt : Nat) (bytes : List Byte) (s : State) : Out :=
  event dt (onAccepted bytes fun _ b s =>
    match b with
    | .status => some s
    | _ => none) s

/-- RESTART (R162). -/
def execRestart (dt : Nat) (bytes : List Byte) (s : State) : Out :=
  event dt (onAccepted bytes fun _ b s =>
    match b with
    | .restart => some (takeRestart s)
    | _ => none) s

end Sys2Proof.Machine
end

