-- ==== Sys2Proof/Machine/Outputs.lean ====
section
/-! DEFINITION. What the output lines of 00_scope.md, "Signals", carry, read from the state as it stands. None of these
lines is state of its own. -/

namespace Sys2Proof.Machine

/-- TXEN: high while an attempt is in progress (R19, R30). -/
def lineTxen (s : State) : Bool :=
  s.channel.attempt.isSome

/-- TXD: the bit of the frame that is on the medium now, each byte most significant bit first, 4 µs a bit (R19). -/
def lineTxd (s : State) : Option Bool :=
  match s.channel.attempt with
  | none => none
  | some a =>
    let bit := (s.nowUs - a.startUs) / 4
    a.bytes[bit / 8]?.map fun b => b.getLsbD (7 - bit % 8)

/-- When the present drive period began (R65). -/
def periodStart (s : State) : Nat :=
  s.governor.periodDue - 1000

/-- DRIVE: high for the width in force from the start of the period (R68). -/
def lineDrive (s : State) : Bool :=
  decide (s.nowUs - periodStart s < s.governor.width)

/-- BRAKE: asserted in ASSIST, HOLD and STOP (R69, R79). -/
def lineBrake (s : State) : Bool :=
  match s.governor.brake with
  | .off => false
  | .assist => true
  | .hold => true
  | .stop => true

/-- SERVO: high for the width in force from each frame start (R93). -/
def lineServo (s : State) : Bool :=
  match s.steering.frameStart with
  | none => false
  | some t => decide (s.nowUs - t < s.steering.width)

/-- FX1 to FX8 (R139). -/
def lineFx (s : State) (line : Nat) : Bool :=
  match s.cues.effects[line - 1]? with
  | none => false
  | some m => m.level

/-- AMP_EN: high in every state of the amplifier but STANDBY (R159). -/
def lineAmpEn (s : State) : Bool :=
  match s.sound.amp with
  | .standby => false
  | .active => true
  | .muted _ => true
  | .waking _ => true

/-- The sample on I²S (R158): that of the latest output period, also when the amplifier has left ACTIVE since (DESIGN CHOICE,
notes/assumptions/48.md). -/
def lineI2s (s : State) : Int :=
  s.sound.output

/-- The converter is BUSY while a scan runs (R82). -/
def converterBusy (s : State) : Bool :=
  s.scanner.scanDue.isSome

end Sys2Proof.Machine
end

