-- ==== Sys2Proof/Machine/Dispatch.lean ====
section
/-! DEFINITION. One arm per command: its meaning. -/

namespace Sys2Proof.Machine

def exec (i : Instr) (s : State) : Host.Outcome State Fault Refusal :=
  match i with
  | .powerOnReset dt => Sys2Proof.Machine.execPowerOnReset dt s
  | .configBlockLoaded dt bytes => Sys2Proof.Machine.execConfigBlockLoaded dt bytes s
  | .contentCheckDone dt header clipDirectory cueDirectory => Sys2Proof.Machine.execContentCheckDone dt header clipDirectory cueDirectory s
  | .encEdge dt => Sys2Proof.Machine.execEncEdge dt s
  | .captureOverflow dt => Sys2Proof.Machine.execCaptureOverflow dt s
  | .tagRecord dt span bytes => Sys2Proof.Machine.execTagRecord dt span bytes s
  | .tagIdleTimeout dt span => Sys2Proof.Machine.execTagIdleTimeout dt span s
  | .frameDiscarded dt bytes => Sys2Proof.Machine.execFrameDiscarded dt bytes s
  | .duplicateId dt bytes => Sys2Proof.Machine.execDuplicateId dt bytes s
  | .poseReceived dt bytes => Sys2Proof.Machine.execPoseReceived dt bytes s
  | .cueReceived dt bytes => Sys2Proof.Machine.execCueReceived dt bytes s
  | .syncReceived dt bytes => Sys2Proof.Machine.execSyncReceived dt bytes s
  | .checkReceived dt bytes => Sys2Proof.Machine.execCheckReceived dt bytes s
  | .verdictReceived dt bytes => Sys2Proof.Machine.execVerdictReceived dt bytes s
  | .dispatchReceived dt bytes => Sys2Proof.Machine.execDispatchReceived dt bytes s
  | .clearFaults dt bytes => Sys2Proof.Machine.execClearFaults dt bytes s
  | .clearPeer dt bytes => Sys2Proof.Machine.execClearPeer dt bytes s
  | .holdall dt bytes => Sys2Proof.Machine.execHoldall dt bytes s
  | .resume dt bytes => Sys2Proof.Machine.execResume dt bytes s
  | .query dt bytes => Sys2Proof.Machine.execQuery dt bytes s
  | .statusReceived dt bytes => Sys2Proof.Machine.execStatusReceived dt bytes s
  | .restart dt bytes => Sys2Proof.Machine.execRestart dt bytes s
  | .attemptStart dt => Sys2Proof.Machine.execAttemptStart dt s
  | .attemptSuccess dt => Sys2Proof.Machine.execAttemptSuccess dt s
  | .collision dt => Sys2Proof.Machine.execCollision dt s
  | .retryWaitExpiry dt => Sys2Proof.Machine.execRetryWaitExpiry dt s
  | .deafTimerExpiry dt => Sys2Proof.Machine.execDeafTimerExpiry dt s
  | .announceTimerExpiry dt => Sys2Proof.Machine.execAnnounceTimerExpiry dt s
  | .neighbourAgeing dt peer => Sys2Proof.Machine.execNeighbourAgeing dt peer s
  | .claimWindowExpiry dt => Sys2Proof.Machine.execClaimWindowExpiry dt s
  | .drivePeriod dt => Sys2Proof.Machine.execDrivePeriod dt s
  | .standstillTimerExpiry dt => Sys2Proof.Machine.execStandstillTimerExpiry dt s
  | .overspeedTimerExpiry dt => Sys2Proof.Machine.execOverspeedTimerExpiry dt s
  | .chainOpen dt => Sys2Proof.Machine.execChainOpen dt s
  | .chainClose dt => Sys2Proof.Machine.execChainClose dt s
  | .restartLineRequest dt => Sys2Proof.Machine.execRestartLineRequest dt s
  | .restartLineReady dt => Sys2Proof.Machine.execRestartLineReady dt s
  | .restraintScanTimerExpiry dt => Sys2Proof.Machine.execRestraintScanTimerExpiry dt s
  | .scanEnd dt channels => Sys2Proof.Machine.execScanEnd dt channels s
  | .latchEdge dt latch high => Sys2Proof.Machine.execLatchEdge dt latch high s
  | .latchSettleExpiry dt latch => Sys2Proof.Machine.execLatchSettleExpiry dt latch s
  | .servoFrameStart dt => Sys2Proof.Machine.execServoFrameStart dt s
  | .guideLossExpiry dt => Sys2Proof.Machine.execGuideLossExpiry dt s
  | .suspectTimerExpiry dt bar => Sys2Proof.Machine.execSuspectTimerExpiry dt bar s
  | .spielRepeatExpiry dt => Sys2Proof.Machine.execSpielRepeatExpiry dt s
  | .readComplete dt data => Sys2Proof.Machine.execReadComplete dt data s
  | .sceneTimeReached dt scene => Sys2Proof.Machine.execSceneTimeReached dt scene s
  | .sceneClockExpiry dt scene => Sys2Proof.Machine.execSceneClockExpiry dt scene s
  | .showHoldExpiry dt => Sys2Proof.Machine.execShowHoldExpiry dt s
  | .effectTimerExpiry dt line => Sys2Proof.Machine.execEffectTimerExpiry dt line s
  | .outputPeriod dt => Sys2Proof.Machine.execOutputPeriod dt s
  | .fadeEnd dt voice => Sys2Proof.Machine.execFadeEnd dt voice s
  | .lockedVoiceTick dt voice => Sys2Proof.Machine.execLockedVoiceTick dt voice s
  | .idleTimerExpiry dt => Sys2Proof.Machine.execIdleTimerExpiry dt s
  | .wakeTimerExpiry dt => Sys2Proof.Machine.execWakeTimerExpiry dt s
  | .tagCharacterError dt span => Sys2Proof.Machine.execTagCharacterError dt span s
  | .tagExcessCharacters dt => Sys2Proof.Machine.execTagExcessCharacters dt s
  | .cdRise dt => Sys2Proof.Machine.execCdRise dt s
  | .cdFall dt => Sys2Proof.Machine.execCdFall dt s
  | .restartLineEdge dt high => Sys2Proof.Machine.execRestartLineEdge dt high s

end Sys2Proof.Machine
end

