-- ==== Sys2Proof/WellFormed.lean ====
section
/-! DEFINITION. Which commands can come at all: the operands the lines, memories and timers of the part can give. The
machine takes any command; one that is not well-formed describes an event that the spec does not allow. -/

namespace Sys2Proof

/-- Bytes of a frame: at most 48 (02_the_ride_channel.md, 2.2). -/
def frameLength (bytes : List Byte) : Bool :=
  decide (bytes.length ≤ 48)

/-- Bytes of a frame with a good CRC and a body that `p` admits. -/
def frameWith (bytes : List Byte) (p : Machine.RxBody → Bool) : Bool :=
  frameLength bytes &&
  (Machine.goodFrame bytes).any fun f => (Machine.parseBody f.kind f.body).any p

/-- A time from the first character of a record to a later one: each comes less than 2 ms after the one before, and
`gaps` gaps lie between them (R4). -/
def characterSpan (gaps span : Nat) : Bool :=
  decide (span < gaps * 2000)

def within (lo hi n : Nat) : Bool :=
  decide (lo ≤ n ∧ n ≤ hi)

/-- The operands of a command are ones that its event can have. -/
def Instr.wellFormed : Instr → Bool
  | .powerOnReset _ => true
  | .configBlockLoaded _ bytes => decide (bytes.length ≤ 64)
  | .contentCheckDone _ header clips cues =>
    decide (header.length ≤ 512 ∧ clips.length ≤ 4096 ∧ cues.length ≤ 8160)
  | .encEdge _ => true
  | .captureOverflow _ => true
  | .tagRecord _ span _ => characterSpan 19 span
  | .tagIdleTimeout _ span => characterSpan 18 span || span == 0
  | .frameDiscarded _ bytes => frameLength bytes
  | .duplicateId _ bytes => frameLength bytes && (Machine.goodFrame bytes).isSome
  | .poseReceived _ bytes => frameWith bytes fun b => match b with
    | .pose _ => true
    | _ => false
  | .cueReceived _ bytes => frameWith bytes fun b => match b with
    | .cue _ => true
    | _ => false
  | .syncReceived _ bytes => frameWith bytes fun b => match b with
    | .sync _ _ => true
    | _ => false
  | .checkReceived _ bytes => frameWith bytes fun b => b == .check
  | .verdictReceived _ bytes => frameWith bytes fun b => b == .verdict
  | .dispatchReceived _ bytes => frameWith bytes fun b => b == .dispatch
  | .clearFaults _ bytes => frameWith bytes fun b => match b with
    | .clearFaults _ => true
    | _ => false
  | .clearPeer _ bytes => frameWith bytes fun b => match b with
    | .clearPeer _ => true
    | _ => false
  | .holdall _ bytes => frameWith bytes fun b => b == .holdall
  | .resume _ bytes => frameWith bytes fun b => match b with
    | .resume _ => true
    | _ => false
  | .query _ bytes => frameWith bytes fun b => b == .query
  | .statusReceived _ bytes => frameWith bytes fun b => b == .status
  | .restart _ bytes => frameWith bytes fun b => b == .restart
  | .attemptStart _ => true
  | .attemptSuccess _ => true
  | .collision _ => true
  | .retryWaitExpiry _ => true
  | .deafTimerExpiry _ => true
  | .announceTimerExpiry _ => true
  | .neighbourAgeing _ peer => within 1 31 peer
  | .claimWindowExpiry _ => true
  | .drivePeriod _ => true
  | .standstillTimerExpiry _ => true
  | .overspeedTimerExpiry _ => true
  | .chainOpen _ => true
  | .chainClose _ => true
  | .restartLineRequest _ => true
  | .restartLineReady _ => true
  | .restraintScanTimerExpiry _ => true
  | .scanEnd _ _ => true
  | .latchEdge _ latch _ => within 1 8 latch
  | .latchSettleExpiry _ latch => within 1 8 latch
  | .servoFrameStart _ => true
  | .guideLossExpiry _ => true
  | .suspectTimerExpiry _ bar => within 1 8 bar
  | .spielRepeatExpiry _ => true
  | .readComplete _ _ => true
  | .sceneTimeReached _ scene => within 1 15 scene
  | .sceneClockExpiry _ scene => within 1 15 scene
  | .showHoldExpiry _ => true
  | .effectTimerExpiry _ line => within 1 8 line
  | .outputPeriod _ => true
  | .fadeEnd _ voice => within 1 3 voice
  | .lockedVoiceTick _ voice => within 1 3 voice
  | .idleTimerExpiry _ => true
  | .wakeTimerExpiry _ => true
  | .tagCharacterError _ span => characterSpan 19 span || span == 0
  | .tagExcessCharacters _ => true
  | .cdRise _ => true
  | .cdFall _ => true
  | .restartLineEdge _ _ => true

/-- The time that passes before a command, in µs. -/
def Instr.delay : Instr → Nat
  | .powerOnReset dt => dt
  | .configBlockLoaded dt _ => dt
  | .contentCheckDone dt _ _ _ => dt
  | .encEdge dt => dt
  | .captureOverflow dt => dt
  | .tagRecord dt _ _ => dt
  | .tagIdleTimeout dt _ => dt
  | .frameDiscarded dt _ => dt
  | .duplicateId dt _ => dt
  | .poseReceived dt _ => dt
  | .cueReceived dt _ => dt
  | .syncReceived dt _ => dt
  | .checkReceived dt _ => dt
  | .verdictReceived dt _ => dt
  | .dispatchReceived dt _ => dt
  | .clearFaults dt _ => dt
  | .clearPeer dt _ => dt
  | .holdall dt _ => dt
  | .resume dt _ => dt
  | .query dt _ => dt
  | .statusReceived dt _ => dt
  | .restart dt _ => dt
  | .attemptStart dt => dt
  | .attemptSuccess dt => dt
  | .collision dt => dt
  | .retryWaitExpiry dt => dt
  | .deafTimerExpiry dt => dt
  | .announceTimerExpiry dt => dt
  | .neighbourAgeing dt _ => dt
  | .claimWindowExpiry dt => dt
  | .drivePeriod dt => dt
  | .standstillTimerExpiry dt => dt
  | .overspeedTimerExpiry dt => dt
  | .chainOpen dt => dt
  | .chainClose dt => dt
  | .restartLineRequest dt => dt
  | .restartLineReady dt => dt
  | .restraintScanTimerExpiry dt => dt
  | .scanEnd dt _ => dt
  | .latchEdge dt _ _ => dt
  | .latchSettleExpiry dt _ => dt
  | .servoFrameStart dt => dt
  | .guideLossExpiry dt => dt
  | .suspectTimerExpiry dt _ => dt
  | .spielRepeatExpiry dt => dt
  | .readComplete dt _ => dt
  | .sceneTimeReached dt _ => dt
  | .sceneClockExpiry dt _ => dt
  | .showHoldExpiry dt => dt
  | .effectTimerExpiry dt _ => dt
  | .outputPeriod dt => dt
  | .fadeEnd dt _ => dt
  | .lockedVoiceTick dt _ => dt
  | .idleTimerExpiry dt => dt
  | .wakeTimerExpiry dt => dt
  | .tagCharacterError dt _ => dt
  | .tagExcessCharacters dt => dt
  | .cdRise dt => dt
  | .cdFall dt => dt
  | .restartLineEdge dt _ => dt

end Sys2Proof
end

