-- ==== Sys2Proof/Safety.lean ====
section
/-! DEFINITION. The terms in which claims speak of the part: which blocks an event leaves alone, and the laws that the
spec says hold at every moment, each as a predicate of a state that every step is to keep. -/

namespace Sys2Proof.Machine

/-! ### Frames -/

/-- The blocks of the part (00_scope.md). -/
inductive Block where
  | startUp | path | channel | zone | governor | scanner | steering | restraints | content | cues | sound
  deriving DecidableEq, Repr

def sameBlock (s t : State) : Block → Prop
  | .startUp => t.startUp = s.startUp
  | .path => t.path = s.path
  | .channel => t.channel = s.channel
  | .zone => t.zone = s.zone
  | .governor => t.governor = s.governor
  | .scanner => t.scanner = s.scanner
  | .steering => t.steering = s.steering
  | .restraints => t.restraints = s.restraints
  | .content => t.content = s.content
  | .cues => t.cues = s.cues
  | .sound => t.sound = s.sound

/-- Every block but those named is unchanged, and so are the queue of commands and the count of ride time. -/
def Frame (changed : List Block) (s t : State) : Prop :=
  t.pending = s.pending ∧ t.epochUs = s.epochUs ∧ ∀ b, b ∉ changed → sameBlock s t b

/-- Of the Channel Interface only the frames waiting to be sent may have changed. -/
def QueueOnly (s t : State) : Prop :=
  t.channel = { s.channel with queue := t.channel.queue, pendingPose := t.channel.pendingPose }

/-- Of the Channel Interface only what the receiver does with RXD may have changed. -/
def ReceiverOnly (s t : State) : Prop :=
  t.channel = { s.channel with receiver := t.channel.receiver }

/-- Of the limit table only the entry of `l` may have changed. -/
def LimitOnly (l : LimitSource) (s t : State) : Prop :=
  ∀ k, k ≠ l → t.governor.limits.get k = s.governor.limits.get k

/-! ### Laws that every step keeps -/

/-- The drive and safety stops (R68, R71, R76, R80): with SAFETY at 0 DRIVE is low and the target 0; while a cause is
latched SAFETY and RIDE are 0 and the brake is in STOP; in RUN with no cause latched SAFETY is 4000; in LOADING it is 0,
and INHIBIT keeps its cause latched. -/
def DriveLaw (s : State) : Prop :=
  (s.governor.limits.safety = 0 → s.governor.target = 0 ∧ s.governor.width = 0 ∧ s.governor.nextWidth = 0) ∧
  (s.governor.causes.any = true →
    s.governor.limits.safety = 0 ∧ s.governor.limits.ride = 0 ∧ s.governor.brake = .stop) ∧
  (s.startUp.run = .inhibit → s.governor.causes.inhibit = true) ∧
  (s.startUp.run = .loading → s.governor.limits.safety = 0) ∧
  (s.startUp.run = .run → s.governor.causes.any = false → s.governor.limits.safety = 4000)

/-- The hold list and the claim (R46): at most four items, and fewer than four while a claim exists. -/
def HoldLaw (s : State) : Prop :=
  s.zone.hold.length ≤ 4 ∧ (s.zone.claim.isSome = true → s.zone.hold.length < 4)

/-- A lost position (R13): in UNKNOWN there is no window, no held item and no claim; TAG follows from the position state,
the here-confirmed flag and the RECOVER grant, which is held only in RUN and never with a trusted position. -/
def PositionLaw (s : State) : Prop :=
  (s.path.pos = .unknown → s.path.window = none ∧ s.zone.hold = [] ∧ s.zone.claim = none) ∧
  s.governor.limits.tag = tagEntry s.cfg.crawlSpeed s.path ∧
  (s.path.recover = true → s.startUp.run = .run ∧ trusted s.path = false)

/-- The odometer, its remainder and the measured speed keep to their ranges (R1, R2). -/
def TravelLaw (s : State) : Prop :=
  s.path.odometer ≤ 4294967295 ∧ s.path.remainder < 1000 ∧ s.path.speed ≤ 4000

/-- The transmit queue (R26): at most six frames, at most one POSE, at most one under transmission and none without an
attempt. -/
def QueueLaw (s : State) : Prop :=
  s.channel.queue.length ≤ 6 ∧
  s.channel.queue.countP (fun f => f.body.isPose) ≤ 1 ∧
  s.channel.queue.countP TxFrame.isOnAir ≤ 1 ∧
  (s.channel.attempt = none → s.channel.queue.countP TxFrame.isOnAir = 0)

/-- The armed list (R129): at most twelve records, ordered by mark, no cue twice at one mark. -/
def ArmedLaw (s : State) : Prop :=
  s.cues.armed.length ≤ 12 ∧
  s.cues.armed.Pairwise (fun a b => a.mark ≤ b.mark) ∧
  s.cues.armed.Pairwise (fun a b => ¬(a.cue = b.cue ∧ a.mark = b.mark))

/-- Every counter is 16 bits wide (R165). -/
def CounterLaw (s : State) : Prop :=
  s.startUp.counters.inOrder.all (fun n => decide (n ≤ 65535)) = true

/-- The steering widths (R94, R98): the width in force, a pending width and the working centre lie within the working
limits. -/
def WidthLaw (s : State) : Prop :=
  ∀ w, s.steering.working = some w →
    w.low ≤ w.centre ∧ w.centre ≤ w.high ∧ w.low ≤ s.steering.width ∧ s.steering.width ≤ w.high ∧
    ∀ p, s.steering.pendingWidth = some p → w.low ≤ p ∧ p ≤ w.high

/-- The restraint stop (R111, R119): RESTRAINT is 0 exactly while a restraint is in FAULT, the Cue Engine has been told of
it, and the spiel repeat timer runs; outside RUN nothing is judged. -/
def RestraintLaw (s : State) : Prop :=
  s.governor.limits.restraint = (if s.anyBarFault then 0 else 4000) ∧
  s.cues.restraintStop = s.anyBarFault ∧
  s.restraints.spielDue.isSome = s.anyBarFault ∧
  (s.startUp.run ≠ .run → s.anyBarFault = false ∧ s.restraints.judging = false ∧ s.scanner.scanDue = none)

/-- The Cue Engine knows of a safety stop while one is in force (R71, R76, R140). -/
def SuspensionLaw (s : State) : Prop :=
  s.cues.safetyStop = s.governor.causes.any

/-- The CHANNEL entry (R34): 0 while DEAF or the TX_FAIL condition is held, and 4000 otherwise. -/
def ChannelLaw (s : State) : Prop :=
  s.governor.limits.channel = if s.channel.deaf = true ∨ s.channel.txFail = true then 0 else 4000

/-- The three curve entries are always those of the present path window, hold list, odometer and measured speed (R14, R15,
R58, R64, R117): CAP is 4000 with an empty window, cap here with no boundary mark, and otherwise the lesser of cap here
and the stop curve to the mark; ZONE is 4000 with no boundary mark or with the next item held, and otherwise the curve to
the mark less the stop margin; LOAD is that curve in a LOAD stretch that the vehicle is not dispatched from, and 4000
otherwise. Outside RUN the window is empty (R18), and a part that has no configuration image is not in RUN (R161). -/
def CurveLaw (s : State) : Prop :=
  (s.startUp.run ≠ .run → s.path.window = none) ∧
  (s.startUp.config = none → s.startUp.run ≠ .run) ∧
  match s.path.window with
  | none => s.governor.limits.cap = 4000 ∧ s.governor.limits.zone = 4000 ∧ s.governor.limits.load = 4000
  | some w =>
    match w.next with
    | none =>
      s.governor.limits.cap = w.capHere ∧ s.governor.limits.zone = 4000 ∧ s.governor.limits.load = 4000
    | some n =>
      s.governor.limits.cap = min w.capHere (stopCurve s n.mark 0 w.capNext) ∧
      s.governor.limits.zone =
        (if ∃ h ∈ s.zone.hold, h.item.covers n.item = true then 4000 else stopCurve s n.mark s.cfg.stopMargin 0) ∧
      s.governor.limits.load =
        if w.load = true ∧ s.restraints.dispatched = false then stopCurve s n.mark s.cfg.stopMargin 0 else 4000

/-! ### The POSE at once -/

/-- An event that takes the part from `s` to `t` has changed what R45 lists: the hold list, the claim or its phase, the
position state, the FAULT flag or the STOPPED flag; or a safety stop has started or ended, or a restraint stop has started,
where the flag stood already (notes/assumptions/46.md). -/
def PoseCalledFor (s t : State) : Prop :=
  t.zone.hold.map HeldItem.item ≠ s.zone.hold.map HeldItem.item ∨
  (t.zone.claim.map fun c => (c.item, c.listening)) ≠ (s.zone.claim.map fun c => (c.item, c.listening)) ∨
  t.path.pos ≠ s.path.pos ∨ t.faultFlag ≠ s.faultFlag ∨ ¬(t.path.speed = 0 ↔ s.path.speed = 0) ∨
  t.governor.causes.any ≠ s.governor.causes.any ∨ (s.anyBarFault = false ∧ t.anyBarFault = true)

/-- The POSE of the part as it stands in `t` is offered to the queue of `s` (R26 to R28): in RUN, with no POSE queued, it is
placed last, for which a full queue gives up its youngest displaceable frame of class 2, or else of class 1, which is counted; a
queued POSE that is not under transmission takes its content in place; beside one under transmission it is pending. -/
def PoseOffered (s t : State) : Prop :=
  let pose := TxBody.pose (buildPose t)
  let q := s.channel.queue
  let spare (k : Nat) (g : TxFrame) : Prop := g.status ≠ .onAir ∧ g.body.cls = k
  let queued (r : List TxFrame) (displaced : Nat) : Prop := t.channel = { s.channel with queue := r } ∧
    t.startUp.counters.txDropped =
      if displaced = 0 then s.startUp.counters.txDropped else min 65535 (s.startUp.counters.txDropped + displaced)
  (s.startUp.run ≠ .run → t.channel = s.channel) ∧
  (s.startUp.run = .run →
    ((∀ g ∈ q, g.body.isPose = false) →
      (q.length < 6 → queued (q ++ [⟨0, pose, 0, none, .queued⟩]) 0) ∧
      (6 ≤ q.length → ∀ xs g ys, q = xs ++ g :: ys →
        (spare 2 g ∧ (∀ y ∈ ys, ¬spare 2 y)) ∨ (spare 1 g ∧ (∀ y ∈ ys, ¬spare 1 y) ∧ ∀ x ∈ q, ¬spare 2 x) →
        queued (xs ++ ys ++ [⟨0, pose, 0, none, .queued⟩]) 1)) ∧
    (∀ xs g ys, q = xs ++ g :: ys → (∀ x ∈ xs ++ ys, x.body.isPose = false) → g.body.isPose = true →
      (g.status ≠ .onAir → queued (xs ++ { g with body := pose, seq := none } :: ys) 0) ∧
      (g.status = .onAir → t.channel = { s.channel with pendingPose := some (buildPose t) })))

/-- An event that offers no other frame, taken by a part whose Channel Interface it leaves as in `s`, offers one POSE at once
when it has changed what calls for one, and otherwise none. -/
def PoseAtOnce (s t : State) : Prop :=
  (PoseCalledFor s t → PoseOffered s t) ∧ (¬PoseCalledFor s t → t.channel = s.channel)

/-! ### Captures and restraints -/

/-- What a speed capture makes of the brake, the standstill timer and the overspeed timer (R69, R70, R73), `m` being the part
as the capture finds it. The effective limit is that of the entries as they then stand, with CAP set anew (the order is DEDUCED,
notes/assumptions/15.md). The target stays. -/
def CaptureTested (m t : State) : Prop :=
  let g := m.governor
  let limit := ({ g.limits with cap := t.governor.limits.cap } : LimitTable).effective
  let speed := t.path.speed
  t.governor.target = g.target ∧
  t.governor.brake = (if g.brake = .assist ∧ speed ≤ limit then .off else g.brake) ∧
  t.governor.standstill = (if speed = 0 ∧ g.target = 0 then
      (if g.standstill = .idle then .running (m.nowUs + 500000) else g.standstill)
    else .idle) ∧
  t.governor.overspeedDue = (if m.startUp.run = .run ∧ g.causes.any = false then
      (if max limit g.target + m.cfg.overspeedMargin < speed then some (g.overspeedDue.getD (m.nowUs + 200000)) else none)
    else g.overspeedDue)

/-- A good lock (R106). -/
def GoodLock (s : State) (b : Bar) : Prop :=
  b.latch = .closed ∧ ∃ p, b.position = some p ∧ p ≤ s.cfg.lockThreshold ∧ 40 ≤ p ∧ p ≤ 4055

/-- What a judging makes of a restraint `b`, with load standstill holding or not (R109 to R111). -/
def BarJudged (s : State) (atLoad : Prop) (b b' : Bar) : Prop :=
  let grace := if b.state = .suspect then none else b.suspectDue
  (b.state = .fault → b' = b) ∧
  (b.state ≠ .fault → GoodLock s b → b' = { b with state := .locked, suspectDue := grace }) ∧
  (b.state ≠ .fault → ¬GoodLock s b → atLoad → b' = { b with state := .opened, suspectDue := grace }) ∧
  (b.state = .opened → ¬GoodLock s b → ¬atLoad → b' = { b with state := .fault }) ∧
  (b.state = .locked → ¬GoodLock s b → ¬atLoad →
    b' = { b with state := .suspect, suspectDue := some (s.nowUs + s.cfg.suspectTime * 1000) }) ∧
  (b.state = .suspect → ¬GoodLock s b → ¬atLoad → b' = b)

/-- Every restraint is judged while judging is ACTIVE (R108), and with what is in `t` RESTRAINT is set anew when a state has
changed, and a restraint stop that starts is reported with its fault and its spiel (R111, R112). -/
def BarsJudged (s t : State) (atLoad : Prop) : Prop :=
  (∀ i : Fin 8,
    (s.restraints.judging = true → i.val < s.cfg.restraintCount →
      BarJudged s atLoad s.restraints.bars[i] t.restraints.bars[i]) ∧
    (s.restraints.judging = false ∨ s.cfg.restraintCount ≤ i.val → t.restraints.bars[i] = s.restraints.bars[i])) ∧
  t.governor.limits.restraint = (if ∃ i : Fin 8, t.restraints.bars[i].state ≠ s.restraints.bars[i].state then
    (if t.anyBarFault = true then 0 else 4000) else s.governor.limits.restraint) ∧
  (s.anyBarFault = false → t.anyBarFault = true → t.cues.restraintStop = true ∧
    t.startUp.faults.has .restraint = true ∧ t.restraints.spielDue = some (s.nowUs + s.cfg.spielRepeat * 1000000))

/-- The Restraint Monitor finds load standstill holding or not (R107, R108): a beginning and an end judge every restraint, and
a change of a state voids dispatch-ready; with neither it stays as it is. -/
def StandstillFound (s t : State) (atLoad : Prop) : Prop :=
  ((s.restraints.standstill = true ↔ atLoad) → t.restraints = s.restraints ∧
    t.governor.limits.restraint = s.governor.limits.restraint) ∧
  (¬(s.restraints.standstill = true ↔ atLoad) → BarsJudged s t atLoad ∧ (t.restraints.standstill = true ↔ atLoad) ∧
    t.restraints = { s.restraints with
      standstill := t.restraints.standstill
      bars := t.restraints.bars
      spielDue := t.restraints.spielDue
      ready := if ∃ i : Fin 8, t.restraints.bars[i].state ≠ s.restraints.bars[i].state then false
        else s.restraints.ready })

/-! ### Claims -/

/-- An entry of the neighbour table holds or claims an item that conflicts with `it` (R41). -/
def Contested (u : State) (it : ZoneItem) : Prop :=
  ∃ (k : Fin 31) (n : Neighbour), u.zone.neighbours[k] = some n ∧
    ((∃ x ∈ n.held, x.conflicts it = true) ∨ ∃ x, n.claim = some x ∧ x.conflicts it = true)

/-- The four conditions under which a claim in LISTEN completes (R52). -/
def ClaimReady (u : State) (it : ZoneItem) (start : Nat) (ev : List Evidence) : Prop :=
  u.cfg.claimWindow * u.cfg.announcePeriod ≤ u.elapsedSince start ∧ (∀ e ∈ ev, e.heard = true) ∧ ¬Contested u it ∧
  u.channel.deaf = false

/-- A claim for `it` as it starts, or as a test of one in WAITING leaves it (R47 to R49): in WAITING while the item is
contested, and otherwise in LISTEN from now on, with the entries that are LIVE or STALE as its evidence set and every heard
mark clear. -/
def ClaimEntered (u t : State) (it : ZoneItem) : Prop :=
  (Contested u it → t.zone.claim = some ⟨it, .waiting⟩) ∧
  (¬Contested u it → ∃ ev, t.zone.claim = some ⟨it, .listen u.rideTime ev⟩ ∧
    ∀ e, e ∈ ev ↔ e.heard = false ∧ ∃ (k : Fin 31) (n : Neighbour),
      e.peer = k.val + 1 ∧ u.zone.neighbours[k] = some n ∧ n.fresh ≠ .lost)

/-- An item is the wanted one (R47): the here item while it is not held, and then the next item while that is not held. -/
def Wants (u : State) (it : ZoneItem) : Prop :=
  ∃ w, u.path.window = some w ∧
    ((u.holds w.here = false ∧ it = w.here) ∨
      (u.holds w.here = true ∧ ∃ n, w.next = some n ∧ u.holds n.item = false ∧ it = n.item))

/-- The wanted item is worked out in `u`, in which no claim exists (R47): a claim for it starts, if there is one and the hold
list has fewer than four items, and otherwise there is none. -/
def ClaimStarts (u t : State) : Prop :=
  (∀ it, Wants u it → u.zone.hold.length < 4 → ClaimEntered u t it) ∧
  ((∀ it, ¬Wants u it) ∨ 4 ≤ u.zone.hold.length → t.zone.claim = none)

/-- What a test of the claim that `u` holds leaves of the claim and of the hold list (R48, R49, R52): no claim stays none;
one in WAITING stays, or enters LISTEN when its item is no longer contested; one in LISTEN completes when it is ready, and
the wanted item is then worked out anew. -/
def ClaimTested (u t : State) : Prop :=
  match u.zone.claim with
  | none => t.zone.claim = none ∧ t.zone.hold = u.zone.hold
  | some ⟨it, .waiting⟩ =>
    t.zone.hold = u.zone.hold ∧ ClaimEntered u t it
  | some ⟨it, .listen start ev⟩ =>
    (ClaimReady u it start ev →
      t.zone.hold = u.zone.hold ++ [⟨it, none⟩] ∧ (∀ c, t.zone.claim = some c → c.item ≠ it) ∧
      ClaimStarts { u with zone := { u.zone with hold := u.zone.hold ++ [⟨it, none⟩], claim := none } } t) ∧
    (¬ClaimReady u it start ev → t.zone.hold = u.zone.hold ∧ t.zone.claim = u.zone.claim)

/-- What a change of the hold list, already made in `u`, leaves of the claim and the list (R47, R49, R52): a claim is tested,
and without one the wanted item is worked out. -/
def HoldChanged (u t : State) : Prop :=
  (u.zone.claim = none → t.zone.hold = u.zone.hold ∧ ClaimStarts u t) ∧ (u.zone.claim ≠ none → ClaimTested u t)

/-! ### Evaluations -/

/-- What cues and sound hold, and every counter but that of the dropped frames, stand in `t` as in `u`. -/
def ShowAs (u t : State) : Prop :=
  t.cues = u.cues ∧ t.sound = u.sound ∧ t.content = u.content ∧
  t.governor.limits.showHold = u.governor.limits.showHold ∧
  t.startUp.counters = { u.startUp.counters with txDropped := t.startUp.counters.txDropped }

/-- What an evaluation reads beside the show (R132, R133), the measured speed apart, stands in `m` as the event leaves it in
`t`. -/
def Moment (m t : State) : Prop :=
  m.nowUs = t.nowUs ∧ m.epochUs = t.epochUs ∧ m.path.odometer = t.path.odometer ∧ m.path.window = t.path.window ∧
  m.zone.neighbours = t.zone.neighbours ∧ m.startUp.run = t.startUp.run ∧ m.startUp.config = t.startUp.config

/-- An event that leaves `t` makes an evaluation (R134) of the show that `s` holds, at a measured speed of `v`, and `rest` is
what follows on it. -/
def EvaluatedThen (s t : State) (v : Nat) (rest : State → Prop) : Prop :=
  ∃ m, Moment m t ∧ m.path.speed = v ∧ ShowAs s m ∧ rest (evaluate none m)

/-- An event that leaves `t` makes one evaluation of the show that `s` holds, at a measured speed of `v`. -/
def Evaluated (s t : State) (v : Nat) : Prop :=
  EvaluatedThen s t v fun u => ShowAs u t

/-- A speed capture of `v` mm/s that leaves `t` finds the show as in `s`: a PENDING show hold starts at a capture of 0, or
ends there when its duration is 0 (R138), and then there is one evaluation. -/
def EvaluatedAtCapture (s t : State) (v : Nat) : Prop :=
  let hold : ShowHold := match s.cues.hold with
    | .pending d => if v = 0 then (if d = 0 then .none else .running (t.rideCount + d)) else .pending d
    | h => h
  Evaluated { s with
    cues := { s.cues with hold := hold }
    governor := { s.governor with limits := { s.governor.limits with
      showHold := if v = 0 ∧ s.cues.hold = .pending 0 then 4000 else s.governor.limits.showHold } } } t v

/-! ### Voices -/

/-- The ways of the set of block `b` that hold it, each with its data. -/
def copiesOf (s : State) (b : Nat) : List (Fin 4 × BlockData) :=
  (List.finRange 4).filterMap fun w =>
    ((s.sound.cache[(⟨b % 32, Nat.mod_lt b (by decide)⟩ : Fin 32)].ways[w]).holding b).map fun d => (w, d)

/-- The cache after a voice has taken block `b` from way `w`, which is then the most recently used of its set (R149). -/
def cacheTaken (s : State) (b : Nat) (w : Fin 4) : Vector CacheSet 32 :=
  let i : Fin 32 := ⟨b % 32, Nat.mod_lt b (by decide)⟩
  s.sound.cache.set i { s.sound.cache[i] with
    order := s.sound.cache[i].order.filter (fun k => k != w.val) ++ [w.val] }

/-- The place in its clip at which a voice with record `x` and entry `e` starts (R145, R156): the expected position of a
voice locked to a scene with a valid clock, and otherwise the position it holds. -/
def startPlace (s : State) (x : Voice) (e : ClipEntry) : Int :=
  match x.lock with
  | none => x.position
  | some l =>
    match sceneTime s l.scene with
    | none => x.position
    | some time => if x.loop = true then ((time : Int) - l.start) * 24 % e.samples else ((time : Int) - l.start) * 24

/-- What the tests of R145 make of the record `x` of a voice in STARTING with its entry `e` present, the amplifier being
ACTIVE or not: past the end of a clip without loop IDLE; PLAYING with its start block in the play buffer when all holds;
and STARTING still when the amplifier is not ACTIVE, the start time lies ahead or the block is not resident. -/
def StartTested (s : State) (active : Prop) (x : Voice) (e : ClipEntry) (y : Voice) : Prop :=
  let p := startPlace s x e
  let k := p.toNat / 256
  let ended := x.loop = false ∧ (e.samples : Int) ≤ p
  (ended → y = Voice.clear) ∧
  (¬ended → active → 0 ≤ p → ∀ w data, copiesOf s (e.start + k) = [(w, data)] →
    y = { x with
      state := .playing, position := p.toNat, buffer := some ⟨k, data⟩, waiting := false, startBlock := none }) ∧
  (¬ended → ¬active ∨ p < 0 ∨ copiesOf s (e.start + k) = [] →
    y = { x with state := .starting, startBlock := y.startBlock })

/-- The amplifier after a voice start (R159). -/
def ampStarted (s : State) : Amplifier :=
  match s.sound.amp with
  | .active => .active
  | .muted _ => .active
  | .standby => .waking (s.nowUs + s.cfg.wakeValue * s.cfg.wakeScale * 1000)
  | .waking d => .waking d

/-- The amplifier of a part that was ACTIVE and has every voice IDLE or PAUSED (R159). -/
def ampQuiet (s : State) : Amplifier :=
  if s.cfg.idleValue * s.cfg.idleScale = 0 then .standby
  else .muted (s.nowUs + s.cfg.idleValue * s.cfg.idleScale * 1000)

/-- The counters after voice `v` has underrun once more (R152, R165). -/
def underran (x : StartUpState) (v : Fin 4) : StartUpState :=
  let n := min 65535 (x.counters.underruns[v] + 1)
  { x with counters := { x.counters with underruns := x.counters.underruns.set v n } }

/-- A requester waits for a target at the Content Reader: queued, or on the read in flight. -/
def Asked (s : State) (who : Requester) (target : Target) : Prop :=
  (∃ q ∈ s.content.queue, q.target = target ∧ names who q.waiters = true) ∨
  ∃ ws due, s.content.reader = .reading target ws due ∧ names who ws = true

/-- Voice `v` has upkept its wants (R150): each block it wants in `t` is resident, or a slot is FILLING it and the voice asks
for it, wherever its set had an unlocked way in `s` that was not FILLING and no other want of the voice falls in that set. -/
def Upkept (s t : State) (v : Fin 4) : Prop :=
  ∀ (b : Nat) (i : Fin 32), b ∈ wants t v.val → i.val = b % 32 →
    (∃ w : Fin 4, s.sound.pins[w.val]?.join = none ∧ s.sound.cache[i].ways[w].isAnyFilling = false) →
    (∀ c ∈ wants t v.val, c ≠ b → c % 32 ≠ b % 32) →
    copiesOf t b ≠ [] ∨ ((∃ w : Fin 4, t.sound.cache[i].ways[w] = .filling b) ∧ Asked t (.voice v.val) (.block b))

/-! ### Suspension (R140, R148) -/

def Suspended (s : State) : Prop :=
  s.cues.restraintStop = true ∨ s.cues.safetyStop = true

/-- Of the show, only which stops the Cue Engine has been told of may have changed. -/
def ShowKept (s t : State) : Prop :=
  t.sound = s.sound ∧ t.content = s.content ∧
  t.cues = { s.cues with restraintStop := t.cues.restraintStop, safetyStop := t.cues.safetyStop }

/-- The show as the beginning of a suspension leaves it: voices 1 to 3 PAUSED from STARTING and PLAYING, with their
place, clip, entry, gain, loop and lock kept and the rest cleared, IDLE from STOPPING, and withdrawn from every request;
each effect line at its fault level in RUN and OFF otherwise; the rest of the Cue Engine as it was, but for the stops it
is told of. -/
def ShowPaused (s t : State) : Prop :=
  t.sound.paused = true ∧
  (∀ v : Fin 4, v ≠ 0 →
    let x := s.sound.voices[v]
    t.sound.voices[v] = match x.state with
      | .starting | .playing =>
        { x with state := .paused, buffer := none, trim := none, jump := false, waiting := false, startBlock := none }
      | .stopping => Voice.clear
      | .idle | .paused => x) ∧
  (∀ v, 1 ≤ v → v ≤ 3 → (∀ q ∈ t.content.queue, names (.voice v) q.waiters = false) ∧
    ∀ target ws due, t.content.reader = .reading target ws due → names (.voice v) ws = false) ∧
  (∀ k : Fin 8, t.cues.effects[k] =
    if s.startUp.run = .run ∧ s.cfg.effectFaults.getLsbD k.val = true then .on else .off) ∧
  t.cues = { s.cues with
    restraintStop := t.cues.restraintStop, safetyStop := t.cues.safetyStop, effects := t.cues.effects }

/-- A suspension begins with a safety stop: the show is paused, voice 0 goes on, and the amplifier, if it was ACTIVE and
voice 0 is silent, is muted. -/
def SuspensionBegun (s t : State) : Prop :=
  ShowPaused s t ∧ t.sound.voices[(0 : Fin 4)] = s.sound.voices[(0 : Fin 4)] ∧
  t.sound.amp = (if s.sound.amp = .active ∧
      (s.sound.voices[(0 : Fin 4)].state = .idle ∨ s.sound.voices[(0 : Fin 4)].state = .paused) then ampQuiet s
    else s.sound.amp)

/-- The restraint stop begins (R111, R112): RESTRAINT 0, the fault in the record, the Cue Engine told, which is suspended
unless it was already, the spiel repeat timer running, and the spiel started on voice 0 unless the show is disabled. -/
def RestraintStopBegun (s t : State) : Prop :=
  t.governor.limits.restraint = 0 ∧ t.startUp.faults.has .restraint = true ∧ t.cues.restraintStop = true ∧
  t.restraints.spielDue = some (s.nowUs + s.cfg.spielRepeat * 1000000) ∧
  (¬Suspended s → s.sound.paused = false → ShowPaused s t) ∧
  (Suspended s → t.cues = { s.cues with restraintStop := true } ∧
    ((∀ v : Fin 4, v ≠ 0 → s.sound.voices[v].state = .idle ∨ s.sound.voices[v].state = .paused) →
      ∀ v : Fin 4, v ≠ 0 → t.sound.voices[v] = s.sound.voices[v])) ∧
  (s.startUp.run = .run → s.content.check = .pass → s.content.queue.length ≤ 80 →
    t.sound.voices[(0 : Fin 4)] =
      { Voice.clear with state := .starting, clip := s.cfg.spielClip, gain := 128 } ∧
    Asked t (.voice 0) (.clipEntry s.cfg.spielClip) ∧
    (0 < s.cfg.idleValue * s.cfg.idleScale → t.sound.amp = ampStarted s)) ∧
  (s.startUp.run ≠ .run ∨ s.content.check = .bad → t.sound.voices[(0 : Fin 4)] = s.sound.voices[(0 : Fin 4)])

/-- What a resumption makes of voices 1 to 3, all IDLE or PAUSED with the paused condition held (R148): each PAUSED
voice enters STARTING, which is a voice start, and is tested under R145 when its entry is present, the start block then
being worked out; without its entry it asks for it, and is IDLE where the Content Reader takes no request. Voice 0 and
an IDLE voice stay. -/
def VoicesResumed (s r : State) : Prop :=
  r.sound.paused = false ∧
  (s.sound.paused = true →
    (∀ v : Fin 4, v ≠ 0 → s.sound.voices[v].state = .idle ∨ s.sound.voices[v].state = .paused) →
    (∀ d, s.sound.amp = .muted d → s.sound.voices[(0 : Fin 4)].state ≠ .starting) →
    let resumes := ∃ v : Fin 4, v ≠ 0 ∧ s.sound.voices[v].state = .paused
    r.sound.voices[(0 : Fin 4)] = s.sound.voices[(0 : Fin 4)] ∧
    (¬resumes → r.sound = { s.sound with paused := false } ∧ r.content = s.content) ∧
    (resumes → (∃ v : Fin 4, r.sound.voices[v].state ≠ .idle ∧ r.sound.voices[v].state ≠ .paused) →
      r.sound.amp = ampStarted s) ∧
    ∀ v : Fin 4, v ≠ 0 →
      let x := s.sound.voices[v]
      let y := r.sound.voices[v]
      (x.state = .idle → y = x) ∧
      (x.state = .paused → x.entry = none →
        (s.startUp.run = .run → s.content.check = .pass → s.content.queue.length ≤ 80 →
          y = { x with state := .starting } ∧ Asked r (.voice v.val) (.clipEntry x.clip)) ∧
        (s.startUp.run ≠ .run ∨ s.content.check ≠ .pass → y = Voice.clear)) ∧
      (x.state = .paused → ∀ e, x.entry = some e → StartTested s (ampStarted s = .active) x e y ∧
        (y.state = .starting → y.startBlock = some ((startPlace s x e).toNat / 256))))

/-- A suspension ends (R140): voices 1 to 3 resume, in a part `r` that differs from `s` otherwise only in what the end of
the stop changed outside the show, and there is then one evaluation. -/
def SuspensionEnded (s t : State) : Prop :=
  ∃ r, VoicesResumed s r ∧ r.cues = { s.cues with restraintStop := false, safetyStop := false } ∧
    r.nowUs = s.nowUs ∧ r.epochUs = s.epochUs ∧ r.path = s.path ∧ r.zone = s.zone ∧ r.channel = s.channel ∧
    r.startUp.run = s.startUp.run ∧ r.startUp.config = s.startUp.config ∧ r.content.check = s.content.check ∧
    r.governor.limits.showHold = s.governor.limits.showHold ∧
    t.cues = (evaluate none r).cues ∧ t.sound = (evaluate none r).sound ∧ t.content = (evaluate none r).content ∧
    t.governor.limits.showHold = (evaluate none r).governor.limits.showHold

/-! ### Safety stops and the warm reset -/

/-- The condition under which a CLEAR leaves a fault kind in the set, by the table of R163: CHAIN_OPEN until a RESUME ends
it, OVERSPEED while the speed exceeds both the effective limit and the target by more than the margin (R73), DUPLICATE_ID
until one loss time has passed since the last duplicate frame, and OVERRUN and POSITION_CONFLICT never. -/
def FaultCondition (s : State) : FaultKind → Prop
  | .chainOpen => s.governor.causes.chainOpen = true
  | .overspeed => s.governor.limits.effective + s.cfg.overspeedMargin < s.path.speed ∧
      s.governor.target + s.cfg.overspeedMargin < s.path.speed
  | .overrun => False
  | .duplicateId => ∃ d, s.channel.lastDuplicate = some d ∧
      ((s.rideTime : Int) - d) % 4294967296 < s.cfg.lossTime
  | .positionConflict => False
  | .restraint => ∃ i : Fin 8, s.restraints.bars[i].state = .fault
  | .guideLost => s.steering.guide ≠ .good
  | .tagMiss => s.path.pos = .adrift
  | .txFail => s.channel.txFail = true
  | .configBad => s.startUp.run = .inhibit
  | .contentBad => s.content.check = .bad

/-- What raising the safety stop `c` leaves (R71, R163): the cause latched, SAFETY and RIDE 0, DRIVE low, the target and
its remainder 0, the brake in STOP, no overspeed timer; the fault in the set, and first if the set was empty. When the
stop begins with it the Cue Engine is told, which suspends the show unless it was suspended; otherwise the show stays.
The Path Tracker, the Zone Controller, the lines, the steering and the restraints are as they were. A stop that begins offers one
POSE at once, and a cause that joins a stop none. -/
def StopRaised (c : StopCause) (s t : State) : Prop :=
  t.governor = { s.governor with
    causes := s.governor.causes.put true c
    limits := { s.governor.limits with safety := 0, ride := 0 }
    width := 0
    nextWidth := 0
    target := 0
    rampRemainder := 0
    brake := .stop
    overspeedDue := none } ∧
  t.startUp = { s.startUp with
    faults := s.startUp.faults.put true c.fault
    first := if s.startUp.faults = FaultSet.empty then some (c.fault, s.rideTime) else s.startUp.first
    counters := t.startUp.counters } ∧
  (s.governor.causes.any = false → t.cues.safetyStop = true ∧ t.cues.restraintStop = s.cues.restraintStop ∧
    (¬Suspended s → s.sound.paused = false → SuspensionBegun s t) ∧ (Suspended s → ShowKept s t)) ∧
  (s.governor.causes.any = true → t.cues = s.cues ∧ ShowKept s t) ∧
  t.nowUs = s.nowUs ∧ t.epochUs = s.epochUs ∧ t.pending = s.pending ∧
  t.path = s.path ∧ t.zone = s.zone ∧ t.scanner = s.scanner ∧ t.steering = s.steering ∧ t.restraints = s.restraints ∧
  QueueOnly s t ∧ PoseAtOnce s t

/-- A pin place that lacks nothing: it is empty, or all its blocks have arrived. -/
def pinLacksNothing : Option Pin → Prop
  | none => True
  | some p => p.entry.isSome = true ∧ p.phase ≠ .filling

/-- The Content Reader after a warm reset (R127): the read and the queue are cut off and the turn starts at voice 1; what
is then asked for is asked for by pin places alone, and nothing where no place lacks anything. -/
def WarmContent (s t : State) : Prop :=
  t.content.lastVoice = 3 ∧
  (∀ q ∈ t.content.queue, ∀ w ∈ q.waiters, ∃ place, w.who = .pin place) ∧
  (∀ target ws due, t.content.reader = .reading target ws due → ∀ w ∈ ws, ∃ place, w.who = .pin place) ∧
  ((∀ p : Fin 2, pinLacksNothing s.sound.pins[p]) →
    t.content = { s.content with reader := .idle, queue := [], lastVoice := 3 })

/-- The cache and the pin list after a warm reset (R160). VALID slots stay; every other slot is INVALID, but for those that
a pin in FILLING lacks, which are FILLING again; the places keep their clips and entries, and a place whose blocks are all
VALID is HELD. The use order stays where nothing is filled anew. A place that waits for its clip entry, and each slot that is
FILLING again, has its request at the Content Reader. A show that is disabled has no pins to fill. -/
def WarmPins (s t : State) : Prop :=
  (s.content.check = .pass ∨ ∀ p : Fin 2, pinLacksNothing s.sound.pins[p]) →
    (∀ (i : Fin 32) (w : Fin 4),
      let lacks (b : Nat) : Prop := ∃ (p : Fin 2) (clip : Nat) (e : ClipEntry), p.val = w.val ∧
        s.sound.pins[p] = some ⟨clip, some e, .filling⟩ ∧ e.start ≤ b ∧ b < e.start + min 32 e.length ∧ b % 32 = i.val
      (∀ b data, s.sound.cache[i].ways[w] = .valid b data → t.sound.cache[i].ways[w] = .valid b data) ∧
      ((∀ b data, s.sound.cache[i].ways[w] ≠ .valid b data) →
        (∀ b, lacks b → t.sound.cache[i].ways[w] = .filling b) ∧
        ((∀ b, ¬lacks b) → t.sound.cache[i].ways[w] = .invalid)) ∧
      ((∀ p : Fin 2, pinLacksNothing s.sound.pins[p]) → t.sound.cache[i].order = s.sound.cache[i].order)) ∧
    (∀ p : Fin 2,
      (∀ clip e, s.sound.pins[p] = some ⟨clip, some e, .filling⟩ → ∃ phase,
        t.sound.pins[p] = some ⟨clip, some e, phase⟩ ∧ (phase = .filling ∨ phase = .held) ∧
        (phase = .filling ↔ ∃ (i : Fin 32) (b : Nat), t.sound.cache[i].ways[p.val]? = some (.filling b))) ∧
      ((∀ clip e, s.sound.pins[p] ≠ some ⟨clip, some e, .filling⟩) → t.sound.pins[p] = s.sound.pins[p]) ∧
      (s.content.check = .pass →
        (∀ clip, s.sound.pins[p] = some ⟨clip, none, .entry⟩ → Asked t (.pin (p.val + 1)) (.clipEntry clip)) ∧
        ∀ (i : Fin 32) (b : Nat), t.sound.cache[i].ways[p.val]? = some (.filling b) →
          Asked t (.pin (p.val + 1)) (.block b)))

/-- What a warm reset leaves, by the reset tables R18, R35, R59, R81, R104, R119, R127, R143 and R160 and by R162. -/
def WarmReset (s t : State) : Prop :=
  t.nowUs = s.nowUs ∧ t.epochUs = s.nowUs ∧ t.pending = s.pending ∧
  t.startUp = s.startUp ∧
  t.path = ⟨0, 0, none, none, 0, .unknown, none, none, false, ⟨s.nowUs, false, false⟩⟩ ∧
  t.zone = { s.zone with
    hold := []
    claim := none
    refusedPending := false
    announceDue := some (s.nowUs + s.cfg.vehicleId * 7 % s.cfg.announcePeriod * 1000) } ∧
  t.governor = { s.governor with
    limits := { LimitTable.reset with
      channel := if s.channel.deaf = true ∨ s.channel.txFail = true then 0 else 4000
      safety := if s.governor.causes.any = true then 0 else 4000 }
    target := 0
    rampRemainder := 0
    rampDirection := .none
    width := 0
    nextWidth := 0
    brake := if s.governor.causes.any = true then .stop else .hold
    standstill := .idle
    overspeedDue := none } ∧
  t.channel = { s.channel with
    queue := t.channel.queue
    attempt := none
    pendingPose := none
    lastDuplicate := s.channel.lastDuplicate.map fun d => d - s.rideTime
    receiver := if s.channel.cdLowSince.isSome then .awaitingCarrier else .ignoring } ∧
  t.channel.queue.length ≤ 1 ∧
  (s.path.pos ≠ .unknown → ∃ p, t.channel.queue = [⟨0, .pose p, 0, none, .queued⟩] ∧
    p.isUnknown = true ∧ p.held = [] ∧ p.here = none ∧ p.claim = none) ∧
  t.scanner.guideList = .idle ∧ t.scanner.restraintList = .idle ∧ t.scanner.scanDue = none ∧
  t.scanner.guideResult = none ∧ t.scanner.restraintResult = none ∧ t.scanner.timerDue = some s.nowUs ∧
  t.scanner.chainHigh = s.scanner.chainHigh ∧ t.scanner.restartHigh = s.scanner.restartHigh ∧
  t.scanner.restartSince = s.scanner.restartSince ∧ t.scanner.restartReady = s.scanner.restartReady ∧
  (∀ i : Fin 8, t.scanner.latches[i] = ⟨s.scanner.latches[i].high, .opened,
    if s.startUp.run = .run ∧ i.val < s.cfg.restraintCount then some (s.nowUs + 20000) else none⟩) ∧
  t.steering = ⟨some s.nowUs, none, some (workingOf s), (workingOf s).centre, none, none, .good, 0, none⟩ ∧
  t.restraints = ⟨Vector.replicate 8 Bar.reset, false, s.nowUs + 20000, false, false, false, none⟩ ∧
  t.content.check = s.content.check ∧ t.content.version = s.content.version ∧ WarmContent s t ∧ WarmPins s t ∧
  t.cues.armed = [] ∧ t.cues.hold = .none ∧ t.cues.restraintStop = false ∧
  t.cues.safetyStop = s.governor.causes.any ∧
  t.cues.effects = (if s.governor.causes.any = true then faultLevels s else Vector.replicate 8 .off) ∧
  (∀ k : Fin 15, t.cues.clocks[k] =
    ⟨s.cues.clocks[k].value, s.cues.clocks[k].receipt - s.rideTime, s.cues.clocks[k].valid⟩) ∧
  t.sound.voices = Vector.replicate 4 Voice.clear ∧ t.sound.paused = s.governor.causes.any ∧
  t.sound.amp = .standby ∧ t.sound.output = 0 ∧ t.sound.underrun = s.sound.underrun

/-! ### Frames received -/

/-- The part after steps 1 to 3 of R24 for the accepted frame `f`, while it is not DEAF: `dt` has passed, the deaf timer
has started anew, the sequence number is recorded, and RXD is ignored until CD falls. -/
def State.afterFrame (s : State) (dt : Nat) (f : RawFrame) : State :=
  { s with
    nowUs := s.nowUs + dt
    channel := { s.channel with
      deafDue := some (s.nowUs + dt + s.cfg.lossTime * 1000)
      lastSeq := s.channel.lastSeq.setIfInBounds f.source (some f.seq)
      receiver := if s.channel.cdLowSince.isSome then .awaitingCarrier else .ignoring } }

/-- The command that brings a frame with this body. -/
def RxBody.command (dt : Nat) (bytes : List Byte) : RxBody → Instr
  | .pose _ => .poseReceived dt bytes
  | .cue _ => .cueReceived dt bytes
  | .sync _ _ => .syncReceived dt bytes
  | .check => .checkReceived dt bytes
  | .verdict => .verdictReceived dt bytes
  | .dispatch => .dispatchReceived dt bytes
  | .clearFaults _ => .clearFaults dt bytes
  | .clearPeer _ => .clearPeer dt bytes
  | .holdall => .holdall dt bytes
  | .resume _ => .resume dt bytes
  | .query => .query dt bytes
  | .status => .statusReceived dt bytes
  | .restart => .restart dt bytes

/-- A zone lies in an item. -/
def ZoneItem.has (it : ZoneItem) (z : Nat) : Prop :=
  it.base ≤ z ∧ z < it.base + 2 ^ it.span

/-! ### What a POSE and a CUE may carry -/

/-- An item as the part stores and sends it: aligned, its base and span in range (R36). -/
def ZoneItem.isAligned (it : ZoneItem) : Prop :=
  it.base < 1024 ∧ it.span < 4 ∧ it.align = it

/-- A POSE whose fields fit their places in the body. -/
def PoseBody.fits (p : PoseBody) : Prop :=
  (∀ it, p.here = some it → it.isAligned) ∧ p.distance < 65536 ∧ p.speed < 65536 ∧ p.period < 65536 ∧
  p.binding < 256 ∧ p.held.length ≤ 4 ∧ (∀ it ∈ p.held, it.isAligned) ∧ (∀ it, p.claim = some it → it.isAligned)

/-- A CUE whose fields fit their places in the body. -/
def CueBody.fits (c : CueBody) : Prop :=
  c.cue < 256 ∧ ∀ scene time, c.scene = some (scene, time) → 1 ≤ scene ∧ scene ≤ 15 ∧ time < 4294967296

end Sys2Proof.Machine
end

