-- ==== Sys2Proof/Certificates/Slice0/Obligations.lean ====
section
/-! DEFINITION. What is stated about the model, for the provers. In every statement `s` is the part before a command, `t`
the part after it, and `dt` the time in µs that passes before it; `advance dt s` is `s` with that time passed. The
statements hold for every state, unless a premise names an invariant, which is then a statement of its own. -/

open Sys2Proof Sys2Proof.Machine

/-! ### The step and the queue of commands -/

/-- A step takes the command at the front of the queue and is that command executed on the part with the rest of the queue;
with an empty queue the part idles. The queue is the model's own (notes/assumptions/4.md). -/
def Obligations.StepRunsTheFrontCommand : Prop :=
  (∀ (c : Instr) (rest : List Instr) (s : State),
    step { s with pending := c :: rest } = exec c { s with pending := rest }) ∧
  (∀ s : State, s.pending = [] → step s = .next s)

/-- Every command completes in every state: it is never refused and never a fault. That no command stops is the model's
choice (DESIGN CHOICE, notes/assumptions/5.md): the spec is silent on events that cannot happen in a state. A command leaves
the queue alone, and the count of time goes on by the command's delay, which only power-on reset starts again from 0
(the model's choice too, notes/assumptions/1.md). -/
def Obligations.EveryCommandCompletes : Prop :=
  ∀ (c : Instr) (s : State), ∃ t, exec c s = .next t ∧ t.pending = s.pending ∧
    (t.nowUs = s.nowUs + c.delay ∨ ∃ dt, c = .powerOnReset dt ∧ t.nowUs = 0)

/-! ### Frames as bytes -/

/-- What this vehicle sends, a vehicle reads. The body of every POSE and of every CUE whose fields fit their places is read
back field by field, and the bodies of VERDICT and STATUS are those of their kinds. Every frame as this vehicle sends it
passes the test of preamble, length and CRC-16, and its header and body are read as they were sent: a receiver that runs the
CRC over header, body and the two CRC bytes obtains 0. -/
def Obligations.SentFramesReadBack : Prop :=
  (∀ p : PoseBody, p.fits → parseBody (TxBody.pose p).kind (encodeBody (.pose p)) = some (.pose p)) ∧
  (∀ c : CueBody, c.fits → parseBody (TxBody.cue c).kind (encodeBody (.cue c)) = some (.cue c)) ∧
  (∀ (pass : Bool) (bars : List BarState), 1 ≤ bars.length → bars.length ≤ 8 →
    parseBody (TxBody.verdict pass bars).kind (encodeBody (.verdict pass bars)) = some .verdict) ∧
  (∀ b : StatusBody, parseBody (TxBody.status b).kind (encodeBody (.status b)) = some .status) ∧
  (∀ (source dest seq : Nat) (body : TxBody), source < 256 → dest < 256 → seq < 256 →
    (encodeBody body).length ≤ 40 →
    goodFrame (encodeFrame source dest seq body) = some ⟨source, dest, body.kind, seq, encodeBody body⟩)

/-! ### Laws that every step keeps -/

/-- DRIVE is low and the target 0 while SAFETY is 0; while a stop cause is latched SAFETY and RIDE are 0 and the brake is in
STOP; INHIBIT keeps its cause latched; SAFETY is 0 in LOADING, and 4000 in RUN with no cause latched. -/
def Obligations.StepKeepsDriveLaw : Prop :=
  ∀ s t : State, DriveLaw s → step s = .next t → DriveLaw t

/-- The hold list holds at most four items, and fewer than four while a claim exists. The transmit queue holds at most six
frames, at most one POSE, at most one frame under transmission, and none under transmission while no attempt is in progress.
The armed list holds at most twelve records, ordered by mark, no cue twice at one mark. Each of the three laws is kept by
itself, whatever becomes of the others. -/
def Obligations.StepKeepsListLaws : Prop :=
  ∀ s t : State, step s = .next t →
    (HoldLaw s → HoldLaw t) ∧ (QueueLaw s → QueueLaw t) ∧ (ArmedLaw s → ArmedLaw t)

/-- In UNKNOWN there is no window, no held item and no claim; TAG follows from the position state, the here-confirmed flag
and the RECOVER grant; the grant is held only in RUN and ends when the position is trusted. -/
def Obligations.StepKeepsPositionLaw : Prop :=
  ∀ s t : State, PositionLaw s → step s = .next t → PositionLaw t

/-- The odometer stays within 32 bits, its remainder below 1000 µm and the measured speed within 4000 mm/s; every counter
stays within 16 bits; the steering width in force, a pending width and the working centre stay within the working limits. -/
def Obligations.StepKeepsRanges : Prop :=
  ∀ s t : State, step s = .next t →
    (TravelLaw s → TravelLaw t) ∧ (CounterLaw s → CounterLaw t) ∧ (WidthLaw s → WidthLaw t)

/-- RESTRAINT is 0 exactly while a restraint is in FAULT, and the spiel timer runs exactly then; the Cue Engine knows of
the restraint stop and of the safety stop while each is in force; outside RUN no restraint is judged. -/
def Obligations.StepKeepsStopNotices : Prop :=
  ∀ s t : State, RestraintLaw s → SuspensionLaw s → step s = .next t → RestraintLaw t ∧ SuspensionLaw t

/-- CAP, ZONE and LOAD are at every moment the values that the path window, the hold list, the odometer and the measured
speed of that moment give: each owner sets its entry anew at every event that changes one of them. -/
def Obligations.StepKeepsCurveEntries : Prop :=
  ∀ s t : State, CurveLaw s → step s = .next t → CurveLaw t

/-- CHANNEL is 0 while DEAF is held or the TX_FAIL condition is held, and 4000 otherwise. -/
def Obligations.StepKeepsChannelEntry : Prop :=
  ∀ s t : State, ChannelLaw s → step s = .next t → ChannelLaw t

/-- The part right after power-on reset meets every one of these laws. -/
def Obligations.ResetMeetsTheLaws : Prop :=
  DriveLaw State.reset ∧ HoldLaw State.reset ∧ PositionLaw State.reset ∧ TravelLaw State.reset ∧
  CounterLaw State.reset ∧ QueueLaw State.reset ∧ ArmedLaw State.reset ∧ WidthLaw State.reset ∧
  RestraintLaw State.reset ∧ SuspensionLaw State.reset ∧ CurveLaw State.reset ∧ ChannelLaw State.reset

/-- No item enters the hold list while an entry of the neighbour table, LIVE, STALE or LOST, holds or claims an item that
conflicts with it: an item held after a command was held before it, or conflicts with nothing in the table. -/
def Obligations.NoItemIsTakenWhileAPeerHoldsIt : Prop :=
  ∀ (c : Instr) (s t : State), exec c s = .next t → ∀ h ∈ t.zone.hold,
    (∃ h' ∈ s.zone.hold, h'.item = h.item) ∨
    ∀ (k : Fin 31) (n : Neighbour), t.zone.neighbours[k] = some n →
      (∀ x ∈ n.held, x.conflicts h.item = false) ∧ ∀ x, n.claim = some x → x.conflicts h.item = false

/-- A locked way is never refilled by replacement nor cleared by invalidation: while a pin place stays HELD with the same
clip, every block that stands VALID in its way stays there. -/
def Obligations.LockedWaysKeepTheirBlocks : Prop :=
  ∀ (c : Instr) (s t : State), exec c s = .next t → ∀ (place : Fin 2) (p : Pin),
    s.sound.pins[place] = some p → p.phase = .held → t.sound.pins[place] = some p →
    ∀ (i : Fin 32) (b : Nat) (data : BlockData),
      (s.sound.cache[i].ways)[place.val]? = some (.valid b data) →
      (t.sound.cache[i].ways)[place.val]? = some (.valid b data)

/-! ### What single rules say of the shared computations -/

/-- The effective limit is the lowest entry and the binding source the first, in table order, that holds it; with every
entry at 4000 they are 4000 and CAP. POSE reports the binding source of the table as it stands. -/
def Obligations.EffectiveLimitAndBindingSource : Prop :=
  (∀ t : LimitTable,
    (∀ k, t.effective ≤ t.get k) ∧ t.get t.binding = t.effective ∧
    (∀ k, k.code < t.binding.code → t.effective < t.get k) ∧
    ((∀ k, t.get k = 4000) → t.effective = 4000 ∧ t.binding = .cap)) ∧
  (∀ s : State, (buildPose s).binding = s.governor.limits.binding.code)

/-- The stop curve: the reaction allowance is rounded down, the distance is the mark less the margin, the odometer and the
allowance, taken as 0 when it is 0 or less and as 65,535 above that, and the value is the exact integer square root of
v_end² + 2·a_s·d, at most 4000, the radicand at most 268,642,500. -/
def Obligations.StopCurveIsTheExactRoot : Prop :=
  ∀ (s : State) (mark margin vEnd : Nat), s.path.speed ≤ 4000 → s.cfg.reactionTime ≤ 500 →
    s.cfg.serviceDecel ≤ 2000 → vEnd ≤ 2550 →
    let r := s.path.speed * s.cfg.reactionTime / 1000
    let raw : Int := (mark : Int) - margin - s.path.odometer - r
    let d := if raw ≤ 0 then 0 else if 65535 < raw then 65535 else raw.toNat
    let radicand := vEnd * vEnd + 2 * s.cfg.serviceDecel * d
    let v := stopCurve s mark margin vEnd
    r ≤ 2000 ∧ radicand ≤ 268642500 ∧ v ≤ 4000 ∧ vEnd ≤ v ∧ v * v ≤ radicand ∧ (v < 4000 → radicand < (v + 1) * (v + 1))

/-- Items are aligned down to the largest multiple of 2^s not above the base, on receipt already; two items conflict when
they share a zone, one covers another when every zone of the other is its own, and an item is held when an item of the
hold list covers it. -/
def Obligations.ZoneItemsAlignCoverAndConflict : Prop :=
  (∀ it : ZoneItem, it.align.span = it.span ∧ it.align.base % 2 ^ it.span = 0 ∧ it.align.base ≤ it.base ∧
    it.base < it.align.base + 2 ^ it.span) ∧
  (∀ w : Nat, itemOfWord w = ZoneItem.align ⟨w % 1024, w / 1024 % 4⟩ ∧ (itemOfWord w).isAligned) ∧
  (∀ x y : ZoneItem, x.conflicts y = true ↔ ∃ z, x.has z ∧ y.has z) ∧
  (∀ x y : ZoneItem, x.covers y = true ↔ ∀ z, y.has z → x.has z) ∧
  (∀ (s : State) (it : ZoneItem), s.holds it = true ↔ ∃ h ∈ s.zone.hold, h.item.covers it = true)

/-- A frame with a good CRC from another station is accepted exactly when it passes every test: its source, its
destination, the addressing of its kind, its kind by source, its kind and length, and the repeat test. A source byte above
63, for which no station identity exists, is discarded too (notes/assumptions/10.md). -/
def Obligations.FramesAreAcceptedByTheirTests : Prop :=
  ∀ (s : State) (f : RawFrame) (b : RxBody),
    judgeGood s f = .accepted f b ↔
      ¬(s.startUp.run = .run ∧ f.source = s.cfg.vehicleId) ∧
      ((1 ≤ f.source ∧ f.source ≤ 31) ∨ (48 ≤ f.source ∧ f.source ≤ 63)) ∧
      (f.dest = 0 ∨ (s.startUp.run = .run ∧ f.dest = s.cfg.vehicleId)) ∧
      ¬(f.dest = 0 ∧ (f.kind = 4 ∨ f.kind = 6 ∨ f.kind = 10 ∨ f.kind = 12)) ∧
      ¬(48 ≤ f.source ∧ (f.kind = 1 ∨ f.kind = 5 ∨ f.kind = 11)) ∧
      ¬(f.source ≤ 31 ∧ (f.kind = 3 ∨ f.kind = 4 ∨ f.kind = 6 ∨ f.kind = 7 ∨ f.kind = 8 ∨ f.kind = 9 ∨ f.kind = 10 ∨
        f.kind = 12)) ∧
      s.channel.lastSeq[f.source]? ≠ some (some f.seq) ∧
      parseBody f.kind f.body = some b

/-- The fields of a good block are brought into their ranges, each from what the block holds: a value in its range is kept,
one below it is taken as the lowest, one above it as the highest, and 0 as the default where there is one and the range
excludes 0; a loss time of 0 takes 2,048 ms, and one below four announce periods, taken in range, becomes four announce
periods. The identities, the latch polarity, the gains, the idle threshold, the scales and the fault levels stay as they
stand in the block. A clamped image is clamped to itself. -/
def Obligations.ConfigFieldsAreBroughtIntoRange : Prop :=
  (∀ lo hi v : Nat, lo ≤ hi →
    clampField lo hi none v = if v < lo then lo else if hi < v then hi else v) ∧
  (∀ lo hi d v : Nat, 0 < lo → lo ≤ hi →
    clampField lo hi (some d) v = if v = 0 then d else if v < lo then lo else if hi < v then hi else v) ∧
  (∀ raw : ConfigImage,
    let into (lo hi v : Nat) : Nat := if v < lo then lo else if hi < v then hi else v
    let orElse (d lo hi v : Nat) : Nat := if v = 0 then d else into lo hi v
    let period := orElse 100 50 500 raw.announcePeriod
    let loss := if raw.lossTime = 0 then 2048 else raw.lossTime
    clampConfig raw = { raw with
      restraintCount := orElse 4 1 8 raw.restraintCount
      vehicleLength := orElse 3000 500 8000 raw.vehicleLength
      stopMargin := into 0 2000 raw.stopMargin
      reactionTime := into 0 500 raw.reactionTime
      serviceDecel := orElse 800 100 2000 raw.serviceDecel
      acceleration := orElse 500 100 2000 raw.acceleration
      crawlSpeed := orElse 150 50 300 raw.crawlSpeed
      fullScale := orElse 2500 1000 4000 raw.fullScale
      overspeedMargin := orElse 150 50 500 raw.overspeedMargin
      announcePeriod := period
      claimWindow := orElse 3 2 10 raw.claimWindow
      lossTime := if loss < 4 * period then 4 * period else loss
      missTolerance := orElse 500 100 2000 raw.missTolerance
      encoderPitch := orElse 500 100 2000 raw.encoderPitch
      encoderDivider := into 0 3 raw.encoderDivider
      restraintScanPeriod := orElse 100 50 200 raw.restraintScanPeriod
      suspectTime := orElse 300 100 1000 raw.suspectTime
      lockThreshold := into 0 4095 raw.lockThreshold
      guideMinimum := into 0 8190 raw.guideMinimum
      guideRange := into 10 200 raw.guideRange
      guideLossTime := into 100 2000 raw.guideLossTime
      steeringCentre := into 800 2200 raw.steeringCentre
      steeringMinimum := into 800 2200 raw.steeringMinimum
      steeringMaximum := into 800 2200 raw.steeringMaximum
      slew := into 1 1400 raw.slew
      spielClip := into 0 511 raw.spielClip
      spielRepeat := into 5 60 raw.spielRepeat
      wakeValue := into 1 31 raw.wakeValue } ∧
    clampConfig (clampConfig raw) = clampConfig raw)

/-- The lateral offset of a good frame is the quotient rounded toward zero and always meets its range; the pending width
stays within the working limits and within the slew of the width in force. -/
def Obligations.SteeringStaysWithinLimitsAndSlew : Prop :=
  (∀ range l r : Nat, 0 < l + r →
    lateralOffset range l r = (((l : Int) - r) * range).tdiv ((l : Int) + r) ∧
    -(range : Int) ≤ lateralOffset range l r ∧ lateralOffset range l r ≤ range) ∧
  (∀ (w : WorkingLimits) (slew width : Nat) (raw : Int), w.low ≤ width → width ≤ w.high →
    w.low ≤ nextWidth w slew width raw ∧ nextWidth w slew width raw ≤ w.high ∧
    width ≤ nextWidth w slew width raw + slew ∧ nextWidth w slew width raw ≤ width + slew)

/-- A frame offered in RUN when no POSE replacement applies: with fewer than six frames queued it is placed last; into a
full queue a POSE displaces the youngest displaceable class-2 frame or else the youngest displaceable class-1 frame, a
class-1 frame the youngest displaceable class-2 frame or else it is dropped, and a CUE is dropped. Each frame displaced or
dropped counts one in "tx dropped". -/
def Obligations.OfferedFramesArePlacedByClass : Prop :=
  ∀ (s : State) (dest : Nat) (body : TxBody), s.startUp.run = .run →
    (body.isPose = true → ∀ g ∈ s.channel.queue, g.body.isPose = false) →
    let q := s.channel.queue
    let f : TxFrame := ⟨dest, body, 0, none, .queued⟩
    let placed (r : List TxFrame) : State := { s with channel := { s.channel with queue := r } }
    let counted (u : State) : State := { u with startUp := { u.startUp with counters := { u.startUp.counters with
      txDropped := min 65535 (u.startUp.counters.txDropped + 1) } } }
    let noneOf (k : Nat) (r : List TxFrame) : Prop := ∀ g ∈ r, g.status ≠ .onAir → g.body.cls ≠ k
    (q.length < 6 → offerFrame dest body s = placed (q ++ [f])) ∧
    (6 ≤ q.length →
      (body.cls ≤ 1 → ∀ xs g ys, q = xs ++ g :: ys → g.status ≠ .onAir → g.body.cls = 2 → noneOf 2 ys →
        offerFrame dest body s = counted (placed (xs ++ ys ++ [f]))) ∧
      (body.cls = 0 → noneOf 2 q → ∀ xs g ys, q = xs ++ g :: ys → g.status ≠ .onAir → g.body.cls = 1 → noneOf 1 ys →
        offerFrame dest body s = counted (placed (xs ++ ys ++ [f]))) ∧
      (body.cls = 1 → noneOf 2 q → offerFrame dest body s = counted s) ∧
      (body.cls = 2 → offerFrame dest body s = counted s))

/-! ### Start-up -/

/-- POWER_ON_RESET leaves LOADING with ride time 0, no configuration image, no faults, counters 0 and every block at its
reset values; a chain that is found open raises CHAIN_OPEN then, as the first fault, and suspends the Cue Engine. The spec
gives no levels of the input lines: those of CHAIN, RESTART, the latches and CD are kept, with RXD ignored while CD is high
(DESIGN CHOICE, notes/assumptions/24.md). The values of State.reset that the spec does not give, such as the ride count and
the output count at 0, are the model's (DESIGN CHOICE, notes/assumptions/3.md). -/
def Obligations.PowerOnResetLeavesTheResetValues : Prop :=
  ∀ (dt : Nat) (s : State), ∃ t, exec (.powerOnReset dt) s = .next t ∧
    t.nowUs = 0 ∧ t.epochUs = 0 ∧ t.startUp.run = .loading ∧ t.startUp.config = none ∧ t.startUp.clamped = false ∧
    t.startUp.counters = Counters.zero ∧ t.path = State.reset.path ∧ t.zone = State.reset.zone ∧
    t.steering = State.reset.steering ∧ t.restraints = State.reset.restraints ∧ t.content = State.reset.content ∧
    t.pending = s.pending ∧
    t.channel = { State.reset.channel with
      cdLowSince := if s.channel.cdLowSince = none then none else some 0
      receiver := if s.channel.cdLowSince = none then .ignoring else .awaitingCarrier } ∧
    t.scanner = { State.reset.scanner with
      latches := t.scanner.latches, chainHigh := s.scanner.chainHigh, restartHigh := s.scanner.restartHigh } ∧
    (∀ i : Fin 8, t.scanner.latches[i] = ⟨s.scanner.latches[i].high, .opened, none⟩) ∧
    t.sound = { State.reset.sound with cache := t.sound.cache, paused := !s.scanner.chainHigh } ∧
    (∀ i : Fin 32, t.sound.cache[i] = CacheSet.reset) ∧
    t.cues.clocks = State.reset.cues.clocks ∧ t.cues.armed = [] ∧ t.cues.hold = .none ∧
    (∀ k : Fin 8, t.cues.effects[k] = .off) ∧ t.cues.restraintStop = false ∧
    t.cues.safetyStop = !s.scanner.chainHigh ∧
    (s.scanner.chainHigh = true →
      t.governor = State.reset.governor ∧ t.startUp.faults = FaultSet.empty ∧ t.startUp.first = none) ∧
    (s.scanner.chainHigh = false →
      t.governor = { State.reset.governor with
        brake := .stop, causes := ⟨true, false, false, false, false, false⟩ } ∧
      t.startUp.faults = ⟨true, false, false, false, false, false, false, false, false, false, false⟩ ∧
      t.startUp.first = some (.chainOpen, 0))

/-- CONFIG_BLOCK_LOADED in LOADING, with no block taken yet: a block of 64 bytes whose CRC-16 gives 0, with the marker and
an identity of 1 to 31, is clamped into the configuration image, and CONFIG_CLAMPED set when clamping changed it; any
other enters INHIBIT, with CONFIG_BAD, the INHIBIT cause and the deaf timer started for 2,048 ms. CONFIG_CLAMPED at a
default taken is DEDUCED (notes/assumptions/14.md). -/
def Obligations.ConfigBlockIsTakenOrInhibits : Prop :=
  ∀ (dt : Nat) (bytes : List Byte) (s : State), s.startUp.run = .loading → s.startUp.config = none →
    let good := bytes.length = 64 ∧ crc16 bytes = 0#16 ∧ word16At bytes 0 = 0x4A56 ∧
      1 ≤ byteAt bytes 4 ∧ byteAt bytes 4 ≤ 31
    (good → exec (.configBlockLoaded dt bytes) s = .next { advance dt s with startUp := { s.startUp with
      config := some (clampConfig (rawConfig bytes))
      clamped := decide (clampConfig (rawConfig bytes) ≠ rawConfig bytes) } }) ∧
    (¬good → ∃ t, exec (.configBlockLoaded dt bytes) s = .next t ∧ t.startUp.run = .inhibit ∧
      t.channel = { s.channel with deafDue := some (s.nowUs + dt + 2048000) } ∧
      StopRaised .inhibit { advance dt s with
        startUp := { s.startUp with run := .inhibit }
        channel := { s.channel with deafDue := some (s.nowUs + dt + 2048000) } } t)

/-- CONTENT_CHECK_DONE in LOADING with a good block, no restraint in FAULT: the check result and the content version are
kept, BAD raises CONTENT_BAD, and RUN begins, with SAFETY at 4000 if no cause is latched, the brake and the causes as
they were, and the deaf timer, the announce timer, the servo frames, the restraint scan timer, the latch settling and
the 20 ms wait of the restraints started. That the restraint scan timer, the first servo frame, with the width at the
centre, and an announce delay of 0 are due at the moment RUN begins, each with a command of its own, is DEDUCED
(notes/assumptions/12.md). That a header that breaks off gives BAD (notes/assumptions/21.md), and version 0 even after a
matching identifier (notes/assumptions/50.md), are DESIGN CHOICES. -/
def Obligations.ContentCheckBeginsRun : Prop :=
  ∀ (dt : Nat) (header clips cues : List Byte) (s : State) (c : ConfigImage),
    s.startUp.run = .loading → s.startUp.config = some c → s.anyBarFault = false →
    let now := s.nowUs + dt
    let r := contentCheck header clips cues
    ∃ t, exec (.contentCheckDone dt header clips cues) s = .next t ∧ t.nowUs = now ∧ t.epochUs = s.epochUs ∧
      t.pending = s.pending ∧
      t.startUp = { s.startUp with
        run := .run
        faults := if r.1 = .bad then s.startUp.faults.put true .contentBad else s.startUp.faults
        first := if r.1 = .bad ∧ s.startUp.faults = FaultSet.empty then some (.contentBad, (advance dt s).rideTime)
          else s.startUp.first } ∧
      t.content = { s.content with check := r.1, version := r.2 } ∧
      t.governor = { s.governor with limits := { s.governor.limits with
        safety := if s.governor.causes.any = true then s.governor.limits.safety else 4000 } } ∧
      t.channel = { s.channel with deafDue := some (now + c.lossTime * 1000) } ∧
      t.zone = { s.zone with announceDue := some (now + c.vehicleId * 7 % c.announcePeriod * 1000) } ∧
      t.path = { s.path with receiver := ⟨now, false, false⟩ } ∧
      t.steering = ⟨some now, none, some (workingLimits c), (workingLimits c).centre, none, none, .good, 0, none⟩ ∧
      t.restraints = ⟨Vector.replicate 8 Bar.reset, false, now + 20000, false, false, false, none⟩ ∧
      t.scanner.timerDue = some now ∧ t.scanner.guideList = .idle ∧ t.scanner.restraintList = .idle ∧
      t.scanner.scanDue = none ∧
      (∀ i : Fin 8, t.scanner.latches[i] = ⟨s.scanner.latches[i].high, .opened,
        if i.val < c.restraintCount then some (now + 20000) else none⟩) ∧
      t.cues = { s.cues with effects :=
        if s.cues.restraintStop = true ∨ s.cues.safetyStop = true then faultLevels t else s.cues.effects } ∧
      t.sound = s.sound

/-! ### Position and path -/

/-- ENC_EDGE in RUN: the pitch goes through the remainder into the odometer, which stops at 4,294,967,295 mm; the
overflow timer starts anew; the edge is a reference, is counted, or completes a capture, which alone sets the speed. An
edge that changes neither the odometer nor the speed changes only the Path Tracker; outside RUN an edge is ignored. With
no boundary reached, an odometer update takes exactly the items whose release mark is reached off the hold list, and a
list that changed tests the claim or starts one for the wanted item (Safety.lean, HoldChanged); with none reached, or no
update, the Zone Controller stays. With the restraint stop as it was, an odometer update is one evaluation of the armed
records at the new odometer and the old speed, and a capture is one at the new speed, after a pending show hold has
begun or ended. At a capture ASSIST ends, and the standstill and the overspeed timers start, go on or are discarded
(Safety.lean, CaptureTested); a beginning or an end of load standstill then judges every restraint, and else the
restraints stay (StandstillFound). With no cue armed one POSE is offered at once when R45 calls for it (PoseAtOnce; a
stop that starts or ends beside the other kind: DESIGN CHOICE, notes/assumptions/46.md). That an edge which does both is
an update first and a capture second, and that the hold starts before the evaluation, is DEDUCED
(notes/assumptions/15.md). -/
def Obligations.EncEdgeMeasuresTravelAndSpeed : Prop :=
  ∀ (dt : Nat) (s : State),
    let now := s.nowUs + dt
    let total := s.path.remainder + s.cfg.encoderPitch
    let odometer := min 4294967295 (s.path.odometer + total / 1000)
    let completes := s.path.capture.any fun r => decide (2 ^ s.cfg.encoderDivider ≤ r.count + 1)
    let capture := match s.path.capture with
      | none => some ⟨now, 0⟩
      | some r => if completes then some ⟨now, 0⟩ else some ⟨r.timeUs, r.count + 1⟩
    let speed := match s.path.capture with
      | none => s.path.speed
      | some r =>
        if completes then
          if now - r.timeUs = 0 then 4000
          else min 4000 (s.cfg.encoderPitch * 2 ^ s.cfg.encoderDivider * 1000 / (now - r.timeUs))
        else s.path.speed
    let kept := s.zone.hold.filter fun h => h.release.all fun mark => decide (odometer < mark)
    (s.startUp.run = .run → ∃ t, exec (.encEdge dt) s = .next t ∧
      t.path.odometer = odometer ∧ t.path.remainder = total % 1000 ∧ t.path.overflowDue = some (now + 65535) ∧
      t.path.capture = capture ∧ t.path.speed = speed ∧ t.path.lastTag = s.path.lastTag ∧
      t.scanner = s.scanner ∧ t.steering = s.steering ∧
      ((∀ w n, s.path.window = some w → w.next = some n → odometer < n.mark) →
        (odometer = s.path.odometer ∨ kept = s.zone.hold → t.zone = s.zone) ∧
        (odometer ≠ s.path.odometer → kept ≠ s.zone.hold → t.zone.neighbours = s.zone.neighbours ∧
          HoldChanged { advance dt s with
            path := { s.path with odometer := odometer }, zone := { s.zone with hold := kept } } t) ∧
        (t.anyBarFault = s.anyBarFault →
          (odometer ≠ s.path.odometer → completes = false → Evaluated s t s.path.speed) ∧
          (odometer = s.path.odometer → completes = true → EvaluatedAtCapture s t speed) ∧
          (odometer ≠ s.path.odometer → completes = true →
            EvaluatedThen s t s.path.speed fun u => EvaluatedAtCapture u t speed)) ∧
        (completes = false → t.restraints = s.restraints) ∧
        (completes = true → StandstillFound (advance dt s) t
          (s.restraints.dispatched = false ∧ speed = 0 ∧ ∃ w, s.path.window = some w ∧ w.load = true))) ∧
      (completes = true → ∃ m, exec (.encEdge dt) { s with path := { s.path with capture := none } } = .next m ∧
        CaptureTested m t) ∧
      (s.cues.armed = [] → PoseAtOnce (advance dt s) t)) ∧
    (s.startUp.run = .run → odometer = s.path.odometer → completes = false →
      exec (.encEdge dt) s = .next { advance dt s with path := { s.path with
        remainder := total % 1000, overflowDue := some (now + 65535), capture := capture } }) ∧
    (s.startUp.run ≠ .run → exec (.encEdge dt) s = .next (advance dt s))

/-- An edge that brings the odometer to the boundary mark crosses it: the here item becomes the previous next item,
which is absent then with its mark, cap here the previous cap next, LOAD clear, the scene 0; an item entered without
being held raises OVERRUN, a held one is confirmed; and each hold-list item left behind gets its release mark one
vehicle length beyond the boundary mark. An end of load standstill judges every restraint, and else the restraints stay
(Safety.lean, StandstillFound). A crossing into a held item, with no capture and the restraint stop as it was, is two
evaluations, one at the crossing and one at the odometer update that it is part of (their order DEDUCED,
notes/assumptions/15.md). -/
def Obligations.BoundaryCrossingMovesTheWindow : Prop :=
  ∀ (dt : Nat) (s : State) (w : PathWindow) (n : NextStretch),
    s.startUp.run = .run → s.path.window = some w → w.next = some n →
    let odometer := min 4294967295 (s.path.odometer + (s.path.remainder + s.cfg.encoderPitch) / 1000)
    odometer ≠ s.path.odometer → n.mark ≤ odometer →
    ∃ t w', exec (.encEdge dt) s = .next t ∧ t.path.window = some w' ∧
      w' = { w with
        here := n.item, next := none, capHere := w.capNext, load := false, scene := 0, confirmed := w'.confirmed } ∧
      (s.holds n.item = true → w'.confirmed = true) ∧
      (s.holds n.item = false → t.startUp.faults.overrun = true ∧ t.governor.causes.overrun = true ∧
        t.governor.limits.safety = 0 ∧ t.governor.limits.ride = 0 ∧ t.governor.width = 0 ∧
        t.governor.brake = .stop ∧ t.path.recover = false) ∧
      (∀ h ∈ s.zone.hold, h.release = none → h.item.covers w.here = true → h.item.covers n.item = false →
        odometer < min 4294967295 (n.mark + s.cfg.vehicleLength) →
        ⟨h.item, some (min 4294967295 (n.mark + s.cfg.vehicleLength))⟩ ∈ t.zone.hold) ∧
      (s.holds n.item = true → t.anyBarFault = s.anyBarFault →
        (∀ r, s.path.capture = some r → r.count + 1 < 2 ^ s.cfg.encoderDivider) →
        EvaluatedThen s t s.path.speed fun u => Evaluated u t s.path.speed) ∧
      StandstillFound (advance dt s) t False

/-- An edge in TRACKING that brings the odometer past the expected-tag mark by more than the miss tolerance, with no
boundary reached: ADRIFT, TAG_MISS, TAG 0 or the crawl speed under a RECOVER grant; the window is kept, and so are the
hold list and the claim when no release mark is reached at that update. With no cue armed one POSE is offered at once.
That TAG is the crawl speed, and not 0, when a grant is held is the model's choice between R13 and R10 (DESIGN CHOICE,
notes/assumptions/37.md). -/
def Obligations.TagMissGoesAdrift : Prop :=
  ∀ (dt : Nat) (s : State) (w : PathWindow) (e : Nat),
    s.startUp.run = .run → s.path.pos = .tracking → s.path.window = some w → w.expected = some e →
    let odometer := min 4294967295 (s.path.odometer + (s.path.remainder + s.cfg.encoderPitch) / 1000)
    odometer ≠ s.path.odometer → (∀ n, w.next = some n → odometer < n.mark) → e + s.cfg.missTolerance < odometer →
    (∀ h ∈ s.zone.hold, ∀ m, h.release = some m → odometer < m) →
    ∃ t, exec (.encEdge dt) s = .next t ∧ t.path.pos = .adrift ∧ t.startUp.faults.tagMiss = true ∧
      t.governor.limits.tag = (if s.path.recover = true then s.cfg.crawlSpeed else 0) ∧
      t.path.window = s.path.window ∧ t.zone.hold = s.zone.hold ∧ t.zone.claim = s.zone.claim ∧
      t.governor.causes = s.governor.causes ∧ (s.cues.armed = [] → PoseOffered (advance dt s) t)

/-- CAPTURE_OVERFLOW: when the overflow timer of a part in RUN has run out, the speed becomes 0 and the capture
reference is discarded, which is handed on as a speed capture of 0: the standstill timer starts on a target of 0, and a
pending show hold begins, or ends when its duration is 0. ASSIST ends; the standstill timer goes on on a target of 0 and
is discarded otherwise; the overspeed timer is discarded unless a stop is in force. A beginning or an end of load
standstill judges every restraint (Safety.lean, StandstillFound), which may begin the restraint stop. Then the armed
records are evaluated once at a speed of 0 (Safety.lean, EvaluatedAtCapture), the restraint stop being as it was; that
the hold starts before the evaluation is DEDUCED (notes/assumptions/15.md). With no cue armed one POSE is offered at
once when R45 calls for it (a stop that starts or ends beside the other kind: DESIGN CHOICE, notes/assumptions/46.md).
Otherwise nothing happens. A command whose event is not due changes nothing but the time (DESIGN CHOICE,
notes/assumptions/5.md; DEDUCED, notes/assumptions/13.md). -/
def Obligations.CaptureOverflowIsStandstill : Prop :=
  ∀ (dt : Nat) (s : State),
    let now := s.nowUs + dt
    let due := s.startUp.run = .run ∧ ∃ d, s.path.overflowDue = some d ∧ d ≤ now
    (due → ∃ t, exec (.captureOverflow dt) s = .next t ∧
      t.path = { s.path with speed := 0, capture := none, overflowDue := none } ∧
      t.zone = s.zone ∧ t.scanner = s.scanner ∧ t.steering = s.steering ∧
      (s.governor.target = 0 → s.governor.standstill = .idle → t.governor.standstill = .running (now + 500000)) ∧
      (s.cues.armed = [] → ∀ d, s.cues.hold = .pending d →
        (0 < d → t.cues.hold = .running ((advance dt s).rideCount + d) ∧
          t.governor.limits.showHold = s.governor.limits.showHold) ∧
        (d = 0 → t.cues.hold = .none ∧ t.governor.limits.showHold = 4000)) ∧
      (t.anyBarFault = s.anyBarFault → EvaluatedAtCapture s t 0) ∧
      t.governor.target = s.governor.target ∧
      t.governor.brake = (if s.governor.brake = .assist then .off else s.governor.brake) ∧
      (s.governor.target ≠ 0 → t.governor.standstill = .idle) ∧
      (s.governor.target = 0 → s.governor.standstill ≠ .idle → t.governor.standstill = s.governor.standstill) ∧
      t.governor.overspeedDue = (if s.governor.causes.any = true then s.governor.overspeedDue else none) ∧
      StandstillFound (advance dt s) t
        (s.restraints.dispatched = false ∧ ∃ w, s.path.window = some w ∧ w.load = true) ∧
      ((∀ d, s.cues.hold ≠ .pending d) → s.anyBarFault = false → t.anyBarFault = true →
        RestraintStopBegun (advance dt s) t) ∧
      (s.cues.armed = [] → PoseAtOnce (advance dt s) t)) ∧
    (¬due → exec (.captureOverflow dt) s = .next (advance dt s))

/-- The tag receiver in RUN, for characters that began 2 ms or more after the last: a complete record whose check byte
is wrong, a record broken off by 2 ms of idle line, and a bad character each count one tag error; characters after a
complete record count one together. A repeat read changes nothing but the receiver. Other characters are no record. The
operand that gives the time since a record's first character, and that characters which begin less than 2 ms after the
last leave the receiver's idle time as it was, are DEDUCED (notes/assumptions/25.md). A command whose event is not due
changes nothing but the time (DESIGN CHOICE, notes/assumptions/5.md; DEDUCED, notes/assumptions/13.md). -/
def Obligations.TagReceiverCountsErrors : Prop :=
  ∀ (dt span : Nat) (s : State),
    let now := s.nowUs + dt
    let with' (r : TagReceiver) : State := { advance dt s with path := { s.path with receiver := r } }
    let counted (u : State) : State := { u with startUp := { u.startUp with counters := { u.startUp.counters with
      tagErrors := min 65535 (u.startUp.counters.tagErrors + 1) } } }
    let begins (since : Nat) : Prop := s.startUp.run = .run ∧ s.path.receiver.idleSince + 2000 + since ≤ now
    (∀ bytes : Vector Byte 20,
      (begins span → tagCheckHolds bytes = false →
        exec (.tagRecord dt span bytes) s = .next (counted (with' ⟨now, true, false⟩))) ∧
      (∀ g, begins span → goodTag bytes = some g → s.path.lastTag = some g.number → s.path.pos = .tracking →
        exec (.tagRecord dt span bytes) s = .next (with' ⟨now, true, false⟩)) ∧
      (¬begins span → exec (.tagRecord dt span bytes) s = .next (advance dt s))) ∧
    (begins (span + 2000) → exec (.tagIdleTimeout dt span) s = .next (counted (with' ⟨now - 2000, false, false⟩))) ∧
    (¬begins (span + 2000) → exec (.tagIdleTimeout dt span) s = .next (advance dt s)) ∧
    (begins span → exec (.tagCharacterError dt span) s = .next (counted (with' ⟨now, false, false⟩))) ∧
    (¬begins span → exec (.tagCharacterError dt span) s = .next (advance dt s)) ∧
    (s.startUp.run = .run → s.path.receiver.afterRecord = true → now < s.path.receiver.idleSince + 2000 →
      exec (.tagExcessCharacters dt) s = .next
        (if s.path.receiver.excessCounted then with' ⟨now, true, true⟩ else counted (with' ⟨now, true, true⟩)))

/-- TAG_RECORD with a good tag in UNKNOWN. A here item that conflicts with the blocked set raises POSITION_CONFLICT, and
the tag is not installed. Otherwise, with the boundary still ahead and no item held, the tag is installed unconfirmed,
TRACKING begins, TAG is 0, or the crawl speed under a grant, and the claim for the here item starts in LISTEN. One POSE
is offered at once when R45 calls for it (a stop that starts or ends beside the other kind: DESIGN CHOICE,
notes/assumptions/46.md), as it does when TRACKING begins; with the tag installed the statement takes no cue to be
armed. -/
def Obligations.FirstTagIsJudgedByThePeers : Prop :=
  ∀ (dt span : Nat) (bytes : Vector Byte 20) (g : GoodTag) (s : State),
    s.startUp.run = .run → s.path.receiver.idleSince + 2000 + span ≤ s.nowUs + dt → goodTag bytes = some g →
    s.path.pos = .unknown → s.path.window = none → s.zone.hold = [] → s.zone.claim = none →
    (s.isBlocked g.here = true → ∃ t, exec (.tagRecord dt span bytes) s = .next t ∧
      t.path = { s.path with recover := false, receiver := ⟨s.nowUs + dt, true, false⟩ } ∧ t.zone = s.zone ∧
      t.startUp.faults.positionConflict = true ∧ t.governor.causes.positionConflict = true ∧
      t.governor.limits.safety = 0 ∧ t.governor.limits.tag = 0 ∧ t.governor.brake = .stop ∧
      PoseAtOnce (advance dt s) t) ∧
    (s.isBlocked g.here = false → s.path.odometer < min 4294967295 (s.path.odometer + g.boundary) →
      ∃ t, exec (.tagRecord dt span bytes) s = .next t ∧ t.path.pos = .tracking ∧
        t.path.lastTag = some g.number ∧ t.path.recover = s.path.recover ∧ t.path.odometer = s.path.odometer ∧
        t.path.window = some {
          here := g.here
          next := some ⟨g.next, min 4294967295 (s.path.odometer + g.boundary)⟩
          capHere := g.capHere
          capNext := g.capNext
          load := g.load
          scene := g.scene
          expected := if g.nextTag = 0 then none else some (min 4294967295 (s.path.odometer + g.nextTag))
          confirmed := false } ∧
        t.governor.limits.tag = (if s.path.recover = true then s.cfg.crawlSpeed else 0) ∧
        t.zone.hold = [] ∧
        t.zone.claim = some ⟨g.here, .listen (advance dt s).rideTime (evidenceSet s)⟩ ∧
        (s.cues.armed = [] → PoseOffered (advance dt s) t))

/-- TAG_RECORD with a good tag that is no repeat read in TRACKING or ADRIFT; a boundary is still ahead of the tag, and
no claim completes at it: a claim in LISTEN has its window still running, or the tag abandons no held item. A tag of the
here item is installed with the here-confirmed flag as it was: set, TAG is 4000 and a grant ends; clear, TAG is 0, or
the crawl speed under the grant, which stays. One that abandons no held item leaves the hold list, and a claim for the
item that is still wanted with its phase, start time, evidence set and heard marks; with no such claim, a claim for the
item that the new window makes wanted starts. One that abandons items takes them off the list, and then a claim that
stays is tested, and otherwise one for the wanted item starts. With no cue marks, no entry into LOAD and the restraint
stop as it was, such a tag is one evaluation of the armed records. Without an entry into LOAD a beginning or an end of
load standstill judges every restraint, and else the restraints stay (Safety.lean, StandstillFound). A tag of the next
item read before its boundary crosses at the tag: the items left behind get their release mark one vehicle length beyond
it, and the tag is installed, confirmed when the item was held, and otherwise unconfirmed under POSITION_CONFLICT. A tag
of any other item is not installed: POSITION_CONFLICT, ADRIFT, the window kept. A refresh with no cue armed, and a
conflict, offer one POSE at once when R45 calls for it (a stop that starts or ends beside the other kind: DESIGN CHOICE,
notes/assumptions/46.md). That a tag of the next item with its boundary behind is such a tag is DEDUCED
(notes/assumptions/23.md). -/
def Obligations.LaterTagIsJudgedByTheWindow : Prop :=
  ∀ (dt span : Nat) (bytes : Vector Byte 20) (g : GoodTag) (s : State) (w : PathWindow),
    s.startUp.run = .run → s.path.receiver.idleSince + 2000 + span ≤ s.nowUs + dt → goodTag bytes = some g →
    s.path.pos ≠ .unknown → ¬(s.path.lastTag = some g.number ∧ s.path.pos = .tracking) → s.path.window = some w →
    let d := s.path.odometer
    let mark (distance : Nat) := min 4294967295 (d + distance)
    let installed (confirmed : Bool) : PathWindow := {
      here := g.here
      next := some ⟨g.next, mark g.boundary⟩
      capHere := g.capHere
      capNext := g.capNext
      load := g.load
      scene := g.scene
      expected := if g.nextTag = 0 then none else some (mark g.nextTag)
      confirmed := confirmed }
    let runs := 0 < s.cfg.claimWindow * s.cfg.announcePeriod ∧ ∀ it start ev,
      s.zone.claim = some ⟨it, .listen start ev⟩ →
        (advance dt s).elapsedSince start < s.cfg.claimWindow * s.cfg.announcePeriod
    let keepsAll := ∀ h ∈ s.zone.hold, h.release ≠ none ∨ h.item.covers g.here = true ∨ h.item.covers g.next = true
    let kept := s.zone.hold.filter fun h => h.release.isSome || h.item.covers g.here || h.item.covers g.next
    let left : State := { advance dt s with
      path := { s.path with window := some (installed w.confirmed) }, zone := { s.zone with hold := kept } }
    let bare : State := { left with zone := { left.zone with claim := none } }
    let stays : Prop := ∃ c, s.zone.claim = some c ∧ Wants left c.item
    (g.here = w.here → d < mark g.boundary → (w.confirmed = true ∨ runs ∨ keepsAll) →
      ∃ t, exec (.tagRecord dt span bytes) s = .next t ∧ t.path.pos = .tracking ∧ t.path.lastTag = some g.number ∧
        t.path.odometer = d ∧ t.path.window = some (installed w.confirmed) ∧
        t.path.recover = (if w.confirmed = true then false else s.path.recover) ∧
        t.governor.limits.tag =
          (if w.confirmed = true then 4000 else if s.path.recover = true then s.cfg.crawlSpeed else 0) ∧
        t.governor.causes = s.governor.causes ∧
        (keepsAll → t.zone.hold = s.zone.hold ∧ (stays → t.zone.claim = s.zone.claim) ∧ (¬stays → ClaimStarts bare t)) ∧
        (¬keepsAll → (stays → HoldChanged left t) ∧ (¬stays → HoldChanged bare t)) ∧
        (g.markA.cue = 0 → g.markB.cue = 0 → g.load = false ∨ w.load = true → t.anyBarFault = s.anyBarFault →
          Evaluated s t s.path.speed) ∧
        (g.load = false ∨ w.load = true → StandstillFound (advance dt s) t
          (g.load = true ∧ s.restraints.dispatched = false ∧ s.path.speed = 0)) ∧
        (s.cues.armed = [] → PoseAtOnce (advance dt s) t)) ∧
    (∀ n, g.here ≠ w.here → w.next = some n → g.here = n.item → d < n.mark → d < mark g.boundary →
      (s.holds n.item = true ∨ runs) →
      ∃ t, exec (.tagRecord dt span bytes) s = .next t ∧ t.path.pos = .tracking ∧ t.path.lastTag = some g.number ∧
        t.path.odometer = d ∧ t.path.recover = false ∧ t.path.window = some (installed (s.holds n.item)) ∧
        (∀ h ∈ s.zone.hold, h.release = none → h.item.covers w.here = true → h.item.covers n.item = false →
          ⟨h.item, some (mark s.cfg.vehicleLength)⟩ ∈ t.zone.hold) ∧
        (s.holds n.item = true → t.governor.limits.tag = 4000 ∧ t.governor.causes = s.governor.causes) ∧
        (s.holds n.item = false → t.governor.limits.tag = 0 ∧ t.startUp.faults.positionConflict = true ∧
          t.governor.causes = s.governor.causes.put true .positionConflict ∧ t.governor.limits.safety = 0 ∧
          t.governor.limits.ride = 0 ∧ t.governor.brake = .stop ∧
          t.startUp.faults.overrun = s.startUp.faults.overrun)) ∧
    (g.here ≠ w.here → (∀ n, w.next = some n → g.here = n.item → n.mark ≤ d) →
      ∃ t, exec (.tagRecord dt span bytes) s = .next t ∧
        t.path = { s.path with pos := .adrift, recover := false, receiver := ⟨s.nowUs + dt, true, false⟩ } ∧
        t.zone = s.zone ∧ t.startUp.faults.positionConflict = true ∧ t.governor.causes.positionConflict = true ∧
        t.governor.limits.safety = 0 ∧ t.governor.limits.tag = 0 ∧ t.governor.brake = .stop ∧
        PoseAtOnce (advance dt s) t)

/-- TAG_RECORD with a good tag that is installed, as a first tag or as a refresh, in RUN with good content, its boundary
ahead and no record in the armed list that could fire. A tag that enters a LOAD stretch empties the list, clears dispatched
and dispatch-ready, ends the show hold with SHOW at 4000, turns every effect line OFF unless the Cue Engine is suspended,
when they stay, and makes every slot of the unlocked ways INVALID, the locked ones staying. Then the tag's cue marks whose
cue is not 0 are armed, A before B, with origin TAG at their distances from the tag, LOADING. Two marks of one cue at one
place are one record. A tag that enters no LOAD stretch leaves dispatched and the show hold. -/
def Obligations.InstalledTagsArmTheirMarks : Prop :=
  ∀ (dt span : Nat) (bytes : Vector Byte 20) (g : GoodTag) (s : State),
    s.startUp.run = .run → s.content.check = .pass → s.content.queue.length ≤ 80 →
    s.path.receiver.idleSince + 2000 + span ≤ s.nowUs + dt → goodTag bytes = some g → 0 < g.boundary →
    s.path.odometer < 4294967295 →
    ((s.path.pos = .unknown ∧ s.path.window = none ∧ s.isBlocked g.here = false) ∨
      (s.path.pos ≠ .unknown ∧ ¬(s.path.lastTag = some g.number ∧ s.path.pos = .tracking) ∧
        ∃ w, s.path.window = some w ∧ g.here = w.here)) →
    let enters := g.load = true ∧ ∀ w, s.path.window = some w → w.load = false
    (s.cues.armed = [] ∨ (enters ∧ ∀ r ∈ s.cues.armed, r.entry = none)) →
    let record (m : CueMark) : ArmedRecord :=
      ⟨m.cue, min 4294967295 (s.path.odometer + m.distance), .tag, none, none⟩
    let a := record g.markA
    let b := record g.markB
    let suspended := s.cues.restraintStop = true ∨ s.cues.safetyStop = true
    ∃ t, exec (.tagRecord dt span bytes) s = .next t ∧
      t.cues.armed =
        (if a.cue = 0 then (if b.cue = 0 then [] else [b])
          else if b.cue = 0 ∨ b = a then [a]
          else if b.mark < a.mark then [b, a] else [a, b]) ∧
      (enters → t.restraints.dispatched = false ∧ t.restraints.ready = false ∧ t.cues.hold = .none ∧
        t.governor.limits.showHold = 4000 ∧
        (suspended → t.cues.effects = s.cues.effects) ∧
        (t.cues.restraintStop = false → t.cues.safetyStop = false → t.cues.effects = Vector.replicate 8 .off) ∧
        ∀ (i : Fin 32) (w : Fin 4), t.sound.cache[i].ways[w] =
          if ∃ p : Fin 2, p.val = w.val ∧ s.sound.pins[p] ≠ none then s.sound.cache[i].ways[w] else .invalid) ∧
      (¬enters → t.restraints.dispatched = s.restraints.dispatched ∧ t.cues.hold = s.cues.hold)

/-! ### Lines and safety stops -/

/-- What edges of input lines do, whole. CD rising begins a frame except in LOADING, and CD falling ends it, complete or
not; bytes are heard as a frame only while one is being assembled, outside LOADING and outside an attempt, and a
discarded frame leaves RXD ignored until CD falls; the RESTART line becomes ready after 1 ms high and stays so over its
fall; a latch line that changes restarts the settle timer of a watched latch; the closing of the chain ends no stop.
That a fall of a RESTART line which has been high for 1 ms leaves it ready without a command of its own is DEDUCED
(notes/assumptions/27.md), and so is how the bytes of a frame come with one command (notes/assumptions/11.md). A command
whose event is not due changes nothing but the time (DESIGN CHOICE, notes/assumptions/5.md; DEDUCED,
notes/assumptions/13.md). -/
def Obligations.LineEventsChangeTheirLines : Prop :=
  ∀ (dt : Nat) (s : State),
    let now := s.nowUs + dt
    let channel (c : ChannelState) : State := { advance dt s with channel := c }
    let scanner (x : ScannerState) : State := { advance dt s with scanner := x }
    (s.channel.cdLowSince.isSome = true → exec (.cdRise dt) s = .next (channel { s.channel with
      cdLowSince := none, receiver := if s.startUp.run = .loading then .ignoring else .assembling })) ∧
    (s.channel.cdLowSince = none → exec (.cdRise dt) s = .next (advance dt s)) ∧
    (s.channel.cdLowSince = none → exec (.cdFall dt) s = .next (channel { s.channel with
      cdLowSince := some now, receiver := .awaitingCarrier })) ∧
    (s.channel.cdLowSince.isSome = true → exec (.cdFall dt) s = .next (advance dt s)) ∧
    (∀ bytes, s.startUp.run = .loading ∨ s.channel.attempt ≠ none ∨ s.channel.receiver ≠ .assembling →
      judgeFrame s bytes = .notHeard) ∧
    (∀ bytes, bytes.head? = some preamble → bytes.length < 6 ∨ (byteAt bytes 5 ≤ 40 ∧ bytes.length < 8 + byteAt bytes 5) →
      judgeFrame s bytes = .notHeard) ∧
    (∀ bytes, s.startUp.run ≠ .loading → s.channel.attempt = none → s.channel.receiver = .assembling →
      (∃ b, bytes.head? = some b ∧ b ≠ preamble) ∨ (6 ≤ bytes.length ∧ 40 < byteAt bytes 5) →
      judgeFrame s bytes = .discarded) ∧
    (∀ bytes, judgeFrame s bytes = .discarded → exec (.frameDiscarded dt bytes) s = .next (channel { s.channel with
      receiver := if s.channel.cdLowSince.isSome then .awaitingCarrier else .ignoring })) ∧
    (∀ bytes, judgeFrame s bytes ≠ .discarded → exec (.frameDiscarded dt bytes) s = .next (advance dt s)) ∧
    (s.scanner.restartHigh = true → s.scanner.restartSince + 1000 ≤ now →
      exec (.restartLineReady dt) s = .next (scanner { s.scanner with restartReady := true })) ∧
    (s.scanner.restartHigh = false ∨ now < s.scanner.restartSince + 1000 →
      exec (.restartLineReady dt) s = .next (advance dt s)) ∧
    (∀ high, s.scanner.restartHigh ≠ high → exec (.restartLineEdge dt high) s = .next (scanner { s.scanner with
      restartHigh := high
      restartSince := now
      restartReady := s.scanner.restartReady || (!high && decide (s.scanner.restartSince + 1000 ≤ now)) })) ∧
    (exec (.restartLineEdge dt s.scanner.restartHigh) s = .next (advance dt s)) ∧
    (exec (.chainClose dt) s = .next (scanner { s.scanner with chainHigh := true })) ∧
    (∀ (i : Fin 8) (high : Bool),
      (s.scanner.latches[i].high ≠ high → exec (.latchEdge dt (i.val + 1) high) s = .next (scanner { s.scanner with
        latches := s.scanner.latches.set i { s.scanner.latches[i] with
          high := high
          settleDue := if s.startUp.run = .run ∧ i.val < s.cfg.restraintCount then some (now + 20000)
            else s.scanner.latches[i].settleDue } })) ∧
      (s.scanner.latches[i].high = high → exec (.latchEdge dt (i.val + 1) high) s = .next (advance dt s)))

/-- The safety stops raised by events of their own: a duplicate identity, whose time is recorded; the expiry of the
overspeed timer; the opening of the chain, in every run state, unless CHAIN_OPEN is latched already. Each takes all the
steps of a safety stop. One that begins suspends the show, unless it was suspended (Safety.lean, SuspensionBegun):
voices 1 to 3 are PAUSED or IDLE and the effect lines at their fault levels. It offers one POSE at once, also while a
restraint is in FAULT, where R43 and R45 can be read as asking for none (DESIGN CHOICE, notes/assumptions/46.md); a
cause that joins a stop offers none. That a voice which becomes IDLE has its whole record cleared is DEDUCED
(notes/assumptions/19.md). A command whose event is not due changes nothing but the time (DESIGN CHOICE,
notes/assumptions/5.md; DEDUCED, notes/assumptions/13.md). -/
def Obligations.SafetyStopsActAtOnce : Prop :=
  ∀ (dt : Nat) (s : State),
    let u := advance dt s
    (∀ bytes, judgeFrame s bytes = .duplicate → ∃ t, exec (.duplicateId dt bytes) s = .next t ∧
      StopRaised .duplicateId { u with channel := { s.channel with
        receiver := if s.channel.cdLowSince.isSome then .awaitingCarrier else .ignoring
        lastDuplicate := some (u.rideTime : Int) } } t) ∧
    ((∃ d, s.governor.overspeedDue = some d ∧ d ≤ u.nowUs) → ∃ t, exec (.overspeedTimerExpiry dt) s = .next t ∧
      StopRaised .overspeed u t) ∧
    (¬(∃ d, s.governor.overspeedDue = some d ∧ d ≤ u.nowUs) → exec (.overspeedTimerExpiry dt) s = .next u) ∧
    (s.scanner.chainHigh = true → s.governor.causes.chainOpen = false → ∃ t, exec (.chainOpen dt) s = .next t ∧
      StopRaised .chainOpen { u with scanner := { s.scanner with chainHigh := false } } t) ∧
    (s.scanner.chainHigh = true → s.governor.causes.chainOpen = true →
      exec (.chainOpen dt) s = .next { u with scanner := { s.scanner with chainHigh := false } }) ∧
    (s.scanner.chainHigh = false → exec (.chainOpen dt) s = .next u)

/-! ### Frames received -/

/-- Every accepted frame, of every kind, restarts the deaf timer, ends DEAF, with CHANNEL then 0 only for TX_FAIL, and has
its sequence number recorded for its source; VERDICT and STATUS then change nothing more while the part is not DEAF. -/
def Obligations.AcceptedFramesEndDeafness : Prop :=
  ∀ (dt : Nat) (bytes : List Byte) (f : RawFrame) (b : RxBody) (s : State), judgeFrame s bytes = .accepted f b →
    (∃ t, exec (b.command dt bytes) s = .next t ∧
      t.channel.deafDue = some (s.nowUs + dt + s.cfg.lossTime * 1000) ∧ t.channel.deaf = false ∧
      t.channel.lastSeq = s.channel.lastSeq.setIfInBounds f.source (some f.seq) ∧
      (s.channel.deaf = true → t.governor.limits.channel = if s.channel.txFail = true then 0 else 4000)) ∧
    (b = .verdict → s.channel.deaf = false → exec (.verdictReceived dt bytes) s = .next (s.afterFrame dt f)) ∧
    (b = .status → s.channel.deaf = false → exec (.statusReceived dt bytes) s = .next (s.afterFrame dt f))

/-- POSE_RECEIVED: the entry of the sender becomes LIVE with age 0 and takes the here item, the announce period, brought
to 50 to 500 ms, and, unless the POSE carries UNKNOWN, its held items and its claim item, which UNKNOWN leaves as they
were. Every other entry stays. A claim in LISTEN that conflicts with an item the sender's entry now holds, or with one
it claims under a lower identity, is withdrawn to WAITING; otherwise the sender's heard mark is set when it is in the
evidence set, which it does not join. Then the claim is tested: one in WAITING whose item is free enters LISTEN with a
new evidence set, and one in LISTEN that is ready completes. Then the armed records are evaluated once. With none armed
one POSE is offered at once when the claim or the hold list has changed. -/
def Obligations.PoseSetsTheNeighbourEntry : Prop :=
  ∀ (dt : Nat) (bytes : List Byte) (f : RawFrame) (p : PoseBody) (k : Fin 31) (s : State),
    judgeFrame s bytes = .accepted f (.pose p) → f.source = k.val + 1 →
    let old := s.zone.neighbours[k]
    let n : Neighbour := {
      fresh := .live
      heardUs := s.nowUs + dt
      period := if p.period < 50 then 50 else if 500 < p.period then 500 else p.period
      here := p.here
      held := if p.isUnknown = true then (match old with | none => [] | some e => e.held) else p.held
      claim := if p.isUnknown = true then (match old with | none => none | some e => e.claim) else p.claim }
    let contradicts (it : ZoneItem) := (∃ h ∈ n.held, h.conflicts it = true) ∨
      (∃ c, n.claim = some c ∧ c.conflicts it = true ∧ f.source < s.cfg.vehicleId)
    let heard (ev : List Evidence) : List Evidence :=
      ev.map fun e => if e.peer = k.val + 1 then { e with heard := true } else e
    let withClaim (c : Option Claim) : State := { s.afterFrame dt f with
      zone := { s.zone with neighbours := s.zone.neighbours.set k (some n), claim := c }
      channel := { (s.afterFrame dt f).channel with deaf := false } }
    ∃ t, exec (.poseReceived dt bytes) s = .next t ∧ t.zone.neighbours = s.zone.neighbours.set k (some n) ∧
      t.path.odometer = s.path.odometer ∧ t.path.pos = s.path.pos ∧ t.governor.causes = s.governor.causes ∧
      t.startUp.faults = s.startUp.faults ∧ t.scanner = s.scanner ∧ t.steering = s.steering ∧
      t.restraints = s.restraints ∧
      (∀ it start ev, s.zone.claim = some ⟨it, .listen start ev⟩ → contradicts it →
        t.zone.claim = some ⟨it, .waiting⟩ ∧ t.zone.hold = s.zone.hold) ∧
      (∀ it start ev, s.zone.claim = some ⟨it, .listen start ev⟩ → ¬contradicts it →
        ClaimTested (withClaim (some ⟨it, .listen start (heard ev)⟩)) t) ∧
      ((∀ it start ev, s.zone.claim ≠ some ⟨it, .listen start ev⟩) → ClaimTested (withClaim s.zone.claim) t) ∧
      Evaluated s t s.path.speed ∧ (s.cues.armed = [] → PoseAtOnce (withClaim s.zone.claim) t)

/-- CUE_RECEIVED in RUN with good content, not DEAF. Cue number 0, and a cue already in the list at this mark, arm
nothing. With fewer than twelve records, and a Content Reader that can take the request, a record of origin FRAME joins
the list LOADING at the odometer, with the frame's scene and time, and its cue directory entry is asked for with the
record as requester. A request that a full queue refuses, which is one content error, takes the record out again, and
the cue is lost. A full list whose last mark is not beyond the odometer drops the cue and counts it lost. -/
def Obligations.CueFramesArmTheirCue : Prop :=
  ∀ (dt : Nat) (bytes : List Byte) (f : RawFrame) (c : CueBody) (s : State),
    judgeFrame s bytes = .accepted f (.cue c) → s.startUp.run = .run → s.content.check = .pass →
    s.channel.deaf = false →
    let u := s.afterFrame dt f
    (c.cue = 0 ∨ (∃ r ∈ s.cues.armed, r.cue = c.cue ∧ r.mark = s.path.odometer) →
      exec (.cueReceived dt bytes) s = .next u) ∧
    (c.cue ≠ 0 → (∀ r ∈ s.cues.armed, ¬(r.cue = c.cue ∧ r.mark = s.path.odometer)) → s.cues.armed.length < 12 →
      s.content.queue.length < 96 →
      ∃ t before after, exec (.cueReceived dt bytes) s = .next t ∧ s.cues.armed = before ++ after ∧
        t = { u with
          content := (offerRead (.record c.cue s.path.odometer) (.cueEntry c.cue) u).1.content
          cues := { s.cues with
            armed := before ++ ⟨c.cue, s.path.odometer, .frame, c.scene, none⟩ :: after } } ∧
        Asked t (.record c.cue s.path.odometer) (.cueEntry c.cue) ∧
        (∀ r ∈ before, r.mark ≤ s.path.odometer) ∧ (∀ r, after.head? = some r → s.path.odometer < r.mark)) ∧
    (c.cue ≠ 0 → (∀ r ∈ s.cues.armed, ¬(r.cue = c.cue ∧ r.mark = s.path.odometer)) → s.cues.armed.length < 12 →
      96 ≤ s.content.queue.length → (∀ q ∈ s.content.queue, q.target ≠ .cueEntry c.cue) →
      (∀ ws due, s.content.reader ≠ .reading (.cueEntry c.cue) ws due) →
      exec (.cueReceived dt bytes) s = .next { u with startUp := { s.startUp with counters := { s.startUp.counters with
        contentErrors := min 65535 (s.startUp.counters.contentErrors + 1)
        cuesLost := min 65535 (s.startUp.counters.cuesLost + 1) } } }) ∧
    (c.cue ≠ 0 → (∀ r ∈ s.cues.armed, ¬(r.cue = c.cue ∧ r.mark = s.path.odometer)) → ∀ front last,
      s.cues.armed = front ++ [last] → 12 ≤ s.cues.armed.length → last.mark ≤ s.path.odometer →
      exec (.cueReceived dt bytes) s = .next { u with startUp := { s.startUp with counters := { s.startUp.counters with
        cuesLost := min 65535 (s.startUp.counters.cuesLost + 1) } } })

/-- SYNC_RECEIVED, not DEAF: the clock entry of the scene takes the frame's clock and the ride time now and is valid,
and no other entry changes; each voice in PLAYING that is locked to the scene, its entry present, has its drift tested,
and then there is one evaluation. With E its expected position and N its sample count, a voice without loop is IDLE from
E = N on and in STARTING again below E = 0. Otherwise the drift is its position less E, for a voice with loop brought
within N/2: up to 24 samples clears trim and pending jump, up to 1,200 sets a REPEAT for a voice ahead or a DROP for one
behind, of what the drift exceeds 24 by, and above that the trim is cleared and a jump is pending, which a voice that
waits makes at once, underrunning again when its block is not resident. Every other voice stays. SCENE_CLOCK_EXPIRY: an
entry whose receipt lies 5,000 ms or more back becomes invalid, with its value and receipt kept, and no voice stays
locked to its scene; with none locked to it before, the expiry is that and one evaluation; a fresher or invalid one
changes nothing. What a record keeps in IDLE and in STARTING is DEDUCED (notes/assumptions/19.md). A command whose event
is not due changes nothing but the time (DESIGN CHOICE, notes/assumptions/5.md; DEDUCED, notes/assumptions/13.md). -/
def Obligations.SceneClocksFollowSync : Prop :=
  (∀ (dt : Nat) (bytes : List Byte) (f : RawFrame) (k : Fin 15) (clock : Nat) (s : State),
    judgeFrame s bytes = .accepted f (.sync (k.val + 1) clock) → s.channel.deaf = false →
    let synced : CueState := { s.cues with clocks := s.cues.clocks.set k ⟨clock, (advance dt s).rideTime, true⟩ }
    let tested (v : Fin 4) : Prop := s.sound.voices[v].state = .playing ∧
      ∃ l, s.sound.voices[v].lock = some l ∧ l.scene = k.val + 1
    ∃ t m, exec (.syncReceived dt bytes) s = .next t ∧ t = evaluate none m ∧ t.cues.clocks = synced.clocks ∧
      t.path = s.path ∧ t.zone = s.zone ∧ t.scanner = s.scanner ∧ t.steering = s.steering ∧
      t.restraints = s.restraints ∧ t.governor.causes = s.governor.causes ∧
      m = { s.afterFrame dt f with
        cues := synced
        content := m.content
        sound := m.sound
        startUp := { s.startUp with counters := m.startUp.counters } } ∧
      ((∀ v, ¬tested v) → m = { s.afterFrame dt f with cues := synced }) ∧
      ∀ v : Fin 4,
        let x := s.sound.voices[v]
        let y := m.sound.voices[v]
        (¬tested v → (x.state = .starting → ∀ d, s.sound.amp ≠ .muted d) → y = x) ∧
        (∀ l e, tested v → x.lock = some l → x.entry = some e →
          let n : Int := e.samples
          let raw : Int := ((clock : Int) - l.start) * 24
          let place : Int := if x.loop = true then raw % n else raw
          let off : Int := x.position - place
          let drift : Int := if x.loop = false then off
            else if n < 2 * off then off - n else if 2 * off < -n then off + n else off
          let inClip : Prop := x.loop = true ∨ (0 ≤ place ∧ place < n)
          let jumped (j : Voice) (z : SoundState) (c : StartUpState) : Prop := m = upkeep v.val { s.afterFrame dt f with
            cues := synced
            sound := { z with voices := s.sound.voices.set v j }
            startUp := c }
          (x.loop = false → place < 0 → y = { x with
            state := .starting, buffer := none, trim := none, jump := false, waiting := false, fade := none,
            startBlock := some 0 }) ∧
          (x.loop = false → n ≤ place → 0 ≤ place → y = Voice.clear) ∧
          (inClip → -24 ≤ drift → drift ≤ 24 → y = { x with trim := none, jump := false }) ∧
          (inClip → 24 < drift → drift ≤ 1200 →
            y = { x with trim := some ⟨false, (drift - 24).toNat, 0⟩, jump := false }) ∧
          (inClip → drift < -24 → -1200 ≤ drift →
            y = { x with trim := some ⟨true, (-drift - 24).toNat, 0⟩, jump := false }) ∧
          (inClip → drift < -1200 ∨ 1200 < drift →
            (x.waiting = false → y = { x with trim := none, jump := true }) ∧
            (x.waiting = true → (∀ u, u ≠ v → ¬tested u) →
              let b := place.toNat / 256
              let moved : Voice := { x with position := place.toNat, trim := none, jump := false }
              (∀ w data, copiesOf s (e.start + b) = [(w, data)] →
                jumped { moved with buffer := some ⟨b, data⟩, waiting := false }
                  { s.sound with cache := cacheTaken s (e.start + b) w } s.startUp) ∧
              (copiesOf s (e.start + b) = [] →
                jumped { moved with waiting := true } { s.sound with underrun := some ⟨v.val, x.clip, b⟩ }
                  (underran s.startUp v)))))) ∧
  (∀ (dt : Nat) (k : Fin 15) (s : State),
    let old := s.cues.clocks[k]
    let out := old.valid = true ∧ 5000 ≤ (advance dt s).elapsedSince old.receipt
    (out → ∃ t, exec (.sceneClockExpiry dt (k.val + 1)) s = .next t ∧
      t.cues.clocks = s.cues.clocks.set k { old with valid := false } ∧
      (∀ (v : Fin 4) (l : SceneLock), t.sound.voices[v].lock = some l → l.scene ≠ k.val + 1) ∧
      ((∀ (v : Fin 4) (l : SceneLock), s.sound.voices[v].lock = some l → l.scene ≠ k.val + 1) → t = evaluate none
        { advance dt s with cues := { s.cues with clocks := s.cues.clocks.set k { old with valid := false } } }) ∧
      t.path = s.path ∧ t.zone = s.zone ∧ t.scanner = s.scanner ∧ t.steering = s.steering ∧
      t.restraints = s.restraints ∧ t.governor.causes = s.governor.causes) ∧
    (¬out → exec (.sceneClockExpiry dt (k.val + 1)) s = .next (advance dt s)))

/-- CHECK_RECEIVED and QUERY in RUN, not DEAF, with room in the queue. The verdict is PASS when every restraint 1
to restraint count is LOCKED; dispatch-ready is set on PASS and cleared on FAIL; the VERDICT, with every state in order,
goes to the station that asked. A QUERY sends it the fault set, the first fault, the counters, the underrun record, the
configuration identity, the content version, the run state and CONFIG_CLAMPED as they stand. -/
def Obligations.CheckAndQueryAreAnswered : Prop :=
  ∀ (dt : Nat) (bytes : List Byte) (f : RawFrame) (s : State), s.startUp.run = .run → s.channel.deaf = false →
    s.channel.queue.length < 6 →
    let u := s.afterFrame dt f
    let sent (body : TxBody) : ChannelState := { u.channel with
      queue := s.channel.queue ++ [⟨f.source, body, 0, none, .queued⟩] }
    (judgeFrame s bytes = .accepted f .check → s.cfg.restraintCount ≤ 8 → ∃ states : List BarState,
      states.length = s.cfg.restraintCount ∧
      (∀ i : Fin 8, i.val < s.cfg.restraintCount → states[i.val]? = some s.restraints.bars[i].state) ∧
      let pass := decide (∀ x ∈ states, x = .locked)
      exec (.checkReceived dt bytes) s = .next { u with
        restraints := { s.restraints with ready := pass }
        channel := sent (.verdict pass states) }) ∧
    (judgeFrame s bytes = .accepted f .query →
      exec (.query dt bytes) s = .next { u with channel := sent (.status {
        faults := s.startUp.faults
        first := s.startUp.first
        clamped := s.startUp.clamped
        counters := s.startUp.counters
        configId := s.cfg.configId
        contentVersion := s.content.version
        run := .run
        underrun := s.sound.underrun }) })

/-- DISPATCH_RECEIVED, not DEAF. With dispatch-ready set and load standstill holding it is accepted: dispatched is set,
dispatch-ready used up and LOAD 4000. Load standstill ends with it, which judges every restraint (Safety.lean,
BarsJudged); one that goes to FAULT then may begin the restraint stop, with one POSE at once (also during a safety stop:
DESIGN CHOICE, notes/assumptions/46.md). That a voice which becomes IDLE has its whole record cleared is DEDUCED
(notes/assumptions/19.md). Otherwise it is ignored by a dispatched vehicle whose window still has LOAD set, and refused
in every other case, which only leaves DISPATCH_REFUSED for the next POSE. -/
def Obligations.DispatchIsAcceptedIgnoredOrRefused : Prop :=
  ∀ (dt : Nat) (bytes : List Byte) (f : RawFrame) (s : State), judgeFrame s bytes = .accepted f .dispatch →
    s.channel.deaf = false →
    let u := s.afterFrame dt f
    let atLoad := ∃ w, s.path.window = some w ∧ w.load = true
    let standstill := atLoad ∧ s.restraints.dispatched = false ∧ s.path.speed = 0
    (s.restraints.ready = true → standstill → ∃ t, exec (.dispatchReceived dt bytes) s = .next t ∧
      t.restraints.dispatched = true ∧ t.restraints.ready = false ∧ t.governor.limits.load = 4000 ∧
      t.path = s.path ∧ t.zone = s.zone ∧ t.scanner = s.scanner ∧ t.steering = s.steering ∧
      t.restraints.standstill = false ∧ BarsJudged u t False ∧
      (s.anyBarFault = false → t.anyBarFault = true → RestraintStopBegun u t) ∧
      (s.anyBarFault = true ∨ t.anyBarFault = false → ShowKept u t) ∧ PoseAtOnce u t) ∧
    (¬(s.restraints.ready = true ∧ standstill) → s.restraints.dispatched = true → atLoad →
      exec (.dispatchReceived dt bytes) s = .next u) ∧
    (¬(s.restraints.ready = true ∧ standstill) → ¬(s.restraints.dispatched = true ∧ atLoad) →
      exec (.dispatchReceived dt bytes) s = .next { u with zone := { s.zone with refusedPending := true } })

/-- CLEAR_FAULTS, not DEAF. With RESTRAINT selected, a restraint in FAULT first becomes LOCKED with a good lock, OPEN at
load standstill, and otherwise stays; a change voids dispatch-ready and sets RESTRAINT to 0 or 4000, and when no
restraint is left in FAULT the restraint stop ends for the Cue Engine and the spiel timer stops. Then a kind leaves the
fault set exactly when the mask selects it and its condition (Safety.lean, FaultCondition) does not hold, RESTRAINT's
being judged on the restraints as they then are, and the first fault goes when the set is then empty; the matching
causes leave the latched ones, CHAIN_OPEN never; when that empties them SAFETY is 4000 and a brake in STOP goes to HOLD,
with RIDE as it was. With the last of the two stops that the Cue Engine has been told of ends the show's suspension
(Safety.lean, SuspensionEnded); otherwise the show stays. With no cue armed one POSE is offered at once when the FAULT
flag changes or a safety stop ends (its end beside a restraint in FAULT: DESIGN CHOICE, notes/assumptions/46.md). (For
OVERSPEED beside RESTRAINT the statement takes SAFETY to be 0, as it is while OVERSPEED is latched: an end of the
restraint stop moves the effective limit, which its condition reads.) That a voice which becomes IDLE has its whole
record cleared is DEDUCED (notes/assumptions/19.md). -/
def Obligations.ClearRemovesFaultsWhoseConditionEnded : Prop :=
  ∀ (dt : Nat) (bytes : List Byte) (f : RawFrame) (mask : Nat) (s : State),
    judgeFrame s bytes = .accepted f (.clearFaults mask) → s.channel.deaf = false →
    let u := s.afterFrame dt f
    let selected (k : FaultKind) := mask / 2 ^ (k.code - 1) % 2 = 1
    ∃ t, exec (.clearFaults dt bytes) s = .next t ∧
      (∀ k : FaultKind, k ≠ .restraint → (k = .overspeed → selected .restraint → s.governor.limits.safety = 0) →
        (t.startUp.faults.has k = true ↔
          s.startUp.faults.has k = true ∧ ¬(selected k ∧ ¬FaultCondition u k))) ∧
      (t.startUp.faults.has .restraint = true ↔
        s.startUp.faults.has .restraint = true ∧ (selected .restraint → FaultCondition t .restraint)) ∧
      t.startUp.first = (if t.startUp.faults = FaultSet.empty then none else s.startUp.first) ∧
      t.governor.causes.chainOpen = s.governor.causes.chainOpen ∧
      (∀ c : StopCause, c ≠ .chainOpen → (t.governor.causes.has c = true ↔
        s.governor.causes.has c = true ∧
          ¬(s.startUp.faults.has c.fault = true ∧ t.startUp.faults.has c.fault = false))) ∧
      (s.governor.causes.any = true → t.governor.causes.any = false →
        t.governor.limits.safety = 4000 ∧ t.governor.brake = (if s.governor.brake = .stop then .hold else
          s.governor.brake)) ∧
      (t.cues.safetyStop = if s.governor.causes.any = true ∧ t.governor.causes.any = false then false
        else s.cues.safetyStop) ∧
      (t.cues.restraintStop = if s.anyBarFault = true ∧ t.anyBarFault = false then false
        else s.cues.restraintStop) ∧
      (Suspended s → ¬Suspended t → SuspensionEnded u t) ∧
      (¬Suspended s ∨ Suspended t → ShowKept u t) ∧ (s.cues.armed = [] → PoseAtOnce u t) ∧
      t.governor.limits.ride = s.governor.limits.ride ∧ t.path = s.path ∧ t.zone = s.zone ∧
      t.scanner = s.scanner ∧ t.steering = s.steering ∧
      t.restraints = { s.restraints with
        bars := t.restraints.bars, ready := t.restraints.ready, spielDue := t.restraints.spielDue } ∧
      (¬selected .restraint → t.restraints = s.restraints ∧
        t.governor.limits.restraint = s.governor.limits.restraint) ∧
      (selected .restraint → (∀ i : Fin 8,
        let b := s.restraints.bars[i]
        let good := b.latch = .closed ∧ ∃ p, b.position = some p ∧ p ≤ s.cfg.lockThreshold ∧ 40 ≤ p ∧ p ≤ 4055
        t.restraints.bars[i] = { b with state :=
          if b.state = .fault ∧ i.val < s.cfg.restraintCount then t.restraints.bars[i].state else b.state } ∧
        (b.state = .fault → i.val < s.cfg.restraintCount →
          (good → t.restraints.bars[i].state = .locked) ∧
          (¬good → s.loadStandstill = true → t.restraints.bars[i].state = .opened) ∧
          (¬good → s.loadStandstill = false → t.restraints.bars[i].state = .fault)))) ∧
      (t.restraints.bars = s.restraints.bars → t.restraints = s.restraints ∧
        t.governor.limits.restraint = s.governor.limits.restraint) ∧
      (t.restraints.bars ≠ s.restraints.bars → t.restraints.ready = false ∧
        t.governor.limits.restraint = (if t.anyBarFault = true then 0 else 4000) ∧
        (t.anyBarFault = true → t.restraints.spielDue = s.restraints.spielDue) ∧
        (t.anyBarFault = false → t.cues.restraintStop = false ∧ t.restraints.spielDue = none))

/-- CLEAR_PEER, not DEAF: only a LOST entry becomes ABSENT, and no fault changes. NEIGHBOUR_AGEING, in INHIBIT and RUN:
an entry is LOST from the loss time on, STALE from three of its announce periods on, and LIVE before, and nothing else
of the table changes; a peer whose entry becomes LOST leaves the evidence set of a claim in LISTEN, its heard mark with
it, and one that becomes STALE stays. Each change of the table tests the claim: one in WAITING whose item is free enters
LISTEN, and one in LISTEN that is ready completes; then the armed records are evaluated once, and with none armed one
POSE is offered at once when the claim or the hold list has changed. A command whose event is not due changes nothing
but the time (DESIGN CHOICE, notes/assumptions/5.md; DEDUCED, notes/assumptions/13.md). -/
def Obligations.EntriesAgeAndAreCleared : Prop :=
  (∀ (dt : Nat) (bytes : List Byte) (f : RawFrame) (peer : Nat) (s : State),
    judgeFrame s bytes = .accepted f (.clearPeer peer) → s.channel.deaf = false →
    (∀ (k : Fin 31) (n : Neighbour), peer = k.val + 1 → s.zone.neighbours[k] = some n → n.fresh = .lost →
      ∃ t, exec (.clearPeer dt bytes) s = .next t ∧ t.zone.neighbours = s.zone.neighbours.set k none ∧
        ClaimTested { s.afterFrame dt f with
          zone := { s.zone with neighbours := s.zone.neighbours.set k none } } t ∧ Evaluated s t s.path.speed ∧
        t.startUp.faults = s.startUp.faults ∧ t.startUp.first = s.startUp.first ∧
        t.governor.causes = s.governor.causes ∧ t.scanner = s.scanner ∧ t.steering = s.steering ∧
        t.restraints = s.restraints ∧ (s.cues.armed = [] → PoseAtOnce (s.afterFrame dt f) t)) ∧
    ((∀ (k : Fin 31) (n : Neighbour), peer = k.val + 1 → s.zone.neighbours[k] = some n → n.fresh ≠ .lost) →
      exec (.clearPeer dt bytes) s = .next (s.afterFrame dt f))) ∧
  (∀ (dt : Nat) (k : Fin 31) (n : Neighbour) (s : State), s.zone.neighbours[k] = some n →
    let age := (s.nowUs + dt - n.heardUs) / 1000
    let fresh : Freshness :=
      if s.cfg.lossTime ≤ age then .lost else if 3 * n.period ≤ age then .stale else .live
    let aged : ZoneState := { s.zone with
      neighbours := s.zone.neighbours.set k (some { n with fresh := fresh })
      claim := match s.zone.claim with
        | some ⟨it, .listen start ev⟩ =>
          some ⟨it, .listen start (if fresh = .lost then ev.filter (fun e => e.peer != k.val + 1) else ev)⟩
        | c => c }
    (s.startUp.run ≠ .loading → fresh ≠ n.fresh → ∃ t, exec (.neighbourAgeing dt (k.val + 1)) s = .next t ∧
      t.zone.neighbours = aged.neighbours ∧ ClaimTested { advance dt s with zone := aged } t ∧
      Evaluated s t s.path.speed ∧
      t.startUp.faults = s.startUp.faults ∧ t.governor.causes = s.governor.causes ∧ t.scanner = s.scanner ∧
      t.steering = s.steering ∧ t.restraints = s.restraints ∧ (s.cues.armed = [] → PoseAtOnce (advance dt s) t)) ∧
    (s.startUp.run = .loading ∨ fresh = n.fresh →
      exec (.neighbourAgeing dt (k.val + 1)) s = .next (advance dt s)))

/-- HOLDALL: RIDE becomes 0, and nothing else changes while the part is not DEAF: no grant, no latched cause, no fault. A
frame that ends DEAF may in the same event complete a claim; RIDE is 0 and the causes and faults are kept then too. -/
def Obligations.HoldallSetsRideToZero : Prop :=
  ∀ (dt : Nat) (bytes : List Byte) (f : RawFrame) (s : State), judgeFrame s bytes = .accepted f .holdall →
    (s.channel.deaf = false → exec (.holdall dt bytes) s = .next { s.afterFrame dt f with
      governor := { s.governor with limits := { s.governor.limits with ride := 0 } } }) ∧
    ∃ t, exec (.holdall dt bytes) s = .next t ∧ t.governor.limits.ride = 0 ∧
      t.governor.causes = s.governor.causes ∧ t.startUp.faults = s.startUp.faults ∧
      t.startUp.first = s.startUp.first ∧ t.governor.target = s.governor.target ∧
      t.governor.brake = s.governor.brake

/-- RESUME, not DEAF. A RECOVER flag counts only when addressed to this vehicle in UNKNOWN or ADRIFT, and then grants
the crawl speed. With the chain closed CHAIN_OPEN is ended and leaves the fault set; if no cause is left, RIDE becomes
4000, and SAFETY too if a stop ends with it, with the brake going from STOP to HOLD; with it ends the show's suspension
(Safety.lean, SuspensionEnded) unless a restraint stop is in force, and with no cue armed one POSE is offered at once
(also while a restraint is in FAULT: DESIGN CHOICE, notes/assumptions/46.md). Another cause, or an open chain, leaves
RIDE. That a voice which becomes IDLE has its whole record cleared is DEDUCED (notes/assumptions/19.md). -/
def Obligations.ResumeLiftsRideWhenNoCauseIsLeft : Prop :=
  ∀ (dt : Nat) (bytes : List Byte) (f : RawFrame) (recover : Bool) (s : State),
    judgeFrame s bytes = .accepted f (.resume recover) → s.channel.deaf = false →
    let u := s.afterFrame dt f
    let granted := recover = true ∧ f.dest ≠ 0 ∧ s.path.pos ≠ .tracking
    let path := if granted then { s.path with recover := true } else s.path
    let tag := if granted then s.cfg.crawlSpeed else s.governor.limits.tag
    let ends := s.governor.causes.chainOpen = true ∧ s.scanner.chainHigh = true
    let left := s.governor.causes.put false .chainOpen
    (s.governor.causes.any = false → exec (.resume dt bytes) s = .next { u with
      path := path
      governor := { s.governor with limits := { s.governor.limits with ride := 4000, tag := tag } } }) ∧
    (s.governor.causes.any = true → ¬ends → exec (.resume dt bytes) s = .next { u with
      path := path
      governor := { s.governor with limits := { s.governor.limits with tag := tag } } }) ∧
    (ends → left.any = true → exec (.resume dt bytes) s = .next { u with
      path := path
      startUp := { s.startUp with
        faults := s.startUp.faults.put false .chainOpen
        first := if s.startUp.faults.put false .chainOpen = FaultSet.empty then none else s.startUp.first }
      governor := { s.governor with causes := left, limits := { s.governor.limits with tag := tag } } }) ∧
    (ends → left.any = false → ∃ t, exec (.resume dt bytes) s = .next t ∧ t.path = path ∧
      t.governor.causes = left ∧ t.governor.limits.ride = 4000 ∧ t.governor.limits.safety = 4000 ∧
      t.governor.limits.tag = tag ∧ t.governor.brake = (if s.governor.brake = .stop then .hold else s.governor.brake) ∧
      t.governor.target = s.governor.target ∧ t.startUp.faults = s.startUp.faults.put false .chainOpen ∧
      t.cues.safetyStop = false ∧ t.cues.restraintStop = s.cues.restraintStop ∧
      (s.cues.restraintStop = false → s.cues.safetyStop = true → SuspensionEnded u t) ∧
      (s.cues.restraintStop = true ∨ s.cues.safetyStop = false → ShowKept u t) ∧
      (s.cues.armed = [] → PoseOffered u t) ∧
      t.zone = s.zone ∧ t.scanner = s.scanner ∧ t.steering = s.steering ∧ t.restraints = s.restraints)

/-- A RESTART frame, not DEAF, is refused while the vehicle moves and is a warm reset at standstill. A low pulse of 1 ms
on a ready RESTART line uses up its readiness; it is a warm reset in RUN, whether the vehicle moves or not, and nothing
more in LOADING and INHIBIT; a shorter pulse, or a line that is not ready, asks for nothing. The warm reset is every
block's (Safety.lean, WarmReset): it cuts off the Content Reader's read and queue, keeps VALID slots and the pin list,
and has the pins ask again for what they lack: the clip entry that a place waits for, and the block of each slot that is
FILLING again. The configuration image, the content check, the fault record and every counter are kept. That the receipt
time of an invalid scene clock entry is moved back with those of the valid ones is the model's choice (DESIGN CHOICE,
notes/assumptions/39.md). DEDUCED there: timers that are due at the moment (notes/assumptions/12.md), a sample of 0 at
once (notes/assumptions/29.md), and that a request uses up the readiness in LOADING and INHIBIT too
(notes/assumptions/27.md). A command whose event is not due changes nothing but the time (DESIGN CHOICE,
notes/assumptions/5.md; DEDUCED, notes/assumptions/13.md). -/
def Obligations.WarmResetByFrameAndByLine : Prop :=
  (∀ (dt : Nat) (bytes : List Byte) (f : RawFrame) (s : State), judgeFrame s bytes = .accepted f .restart →
    s.channel.deaf = false →
    (s.path.speed ≠ 0 → exec (.restart dt bytes) s = .next (s.afterFrame dt f)) ∧
    (s.path.speed = 0 → ∃ t, exec (.restart dt bytes) s = .next t ∧ WarmReset (s.afterFrame dt f) t)) ∧
  (∀ (dt : Nat) (s : State),
    let u := { advance dt s with scanner := { s.scanner with restartReady := false } }
    let asked := s.scanner.restartHigh = false ∧ s.scanner.restartReady = true ∧
      s.scanner.restartSince + 1000 ≤ s.nowUs + dt
    (asked → s.startUp.run = .run → ∃ t, exec (.restartLineRequest dt) s = .next t ∧ WarmReset u t) ∧
    (asked → s.startUp.run ≠ .run → exec (.restartLineRequest dt) s = .next u) ∧
    (¬asked → exec (.restartLineRequest dt) s = .next (advance dt s)))

/-! ### Sending -/

/-- ATTEMPT_START: in RUN, with no attempt and no retry wait, the head, which is the oldest frame of the lowest class
present, starts its attempt once CD has been low for 200 µs plus 100 µs a class plus the identity slot. Its attempt
count goes up, it takes a number from the counter unless it is a retry, and its bytes go out. Before that, and outside
RUN, nothing happens. A command whose event is not due changes nothing but the time (DESIGN CHOICE,
notes/assumptions/5.md; DEDUCED, notes/assumptions/13.md). -/
def Obligations.AttemptStartsAfterTheAccessWait : Prop :=
  ∀ (dt since : Nat) (s : State) (xs ys : List TxFrame) (f : TxFrame),
    s.channel.attempt = none → s.channel.queue = xs ++ f :: ys → (∀ g ∈ xs, f.body.cls < g.body.cls) →
    (∀ g ∈ ys, f.body.cls ≤ g.body.cls) → s.channel.cdLowSince = some since →
    let now := s.nowUs + dt
    let ready := s.startUp.run = .run ∧ (∀ g ∈ s.channel.queue, ∀ d, g.status ≠ .retrying d) ∧
      since + (200 + f.body.cls * 100 + s.cfg.vehicleId % 16 * 20) ≤ now
    let seq := f.seq.getD s.channel.seqCounter
    (ready → exec (.attemptStart dt) s = .next { advance dt s with channel := { s.channel with
      queue := xs ++ { f with attempts := f.attempts + 1, seq := some seq, status := .onAir } :: ys
      seqCounter := if f.seq = none then (s.channel.seqCounter + 1) % 256 else s.channel.seqCounter
      attempt := some ⟨now, encodeFrame s.cfg.vehicleId f.dest seq f.body⟩ } }) ∧
    (¬ready → exec (.attemptStart dt) s = .next (advance dt s))

/-- The two ends of an attempt. ATTEMPT_SUCCESS, not before the last bit: the frame leaves the queue; a POSE ends the
run of give-ups and TX_FAIL, and a DISPATCH_REFUSED flag that it carried. COLLISION: before the third attempt the frame
stays for a retry wait of 2 ms an attempt plus the identity slot; at the third it is given up and counted, and the fifth
POSE given up in a row raises TX_FAIL, with CHANNEL 0; the receiver goes on as it stands. A POSE that is pending while a
POSE is sent is offered as a new POSE after a success and after a give-up, and before a retry replaces the queued POSE
in place, as new content that keeps the attempts and the retry wait. A command whose event is not due changes nothing
but the time (DESIGN CHOICE, notes/assumptions/5.md; DEDUCED, notes/assumptions/13.md). -/
def Obligations.AttemptsEndInSuccessRetryOrGiveUp : Prop :=
  ∀ (dt : Nat) (s : State) (a : Attempt) (xs ys : List TxFrame) (f : TxFrame),
    s.channel.attempt = some a → s.channel.queue = xs ++ f :: ys → f.status = .onAir →
    (∀ g ∈ xs ++ ys, g.status ≠ .onAir) →
    (s.channel.pendingPose = none ∨
      (s.startUp.run = .run ∧ f.body.isPose = true ∧ (∀ g ∈ xs ++ ys, g.body.isPose = false) ∧
        xs.length + ys.length < 6)) →
    let now := s.nowUs + dt
    let rest := if s.channel.cdLowSince.isSome then Receiver.awaitingCarrier else .ignoring
    let offered : List TxFrame := match s.channel.pendingPose with
      | none => []
      | some p => [⟨0, .pose p, 0, none, .queued⟩]
    let kept : TxFrame := match s.channel.pendingPose with
      | none => f
      | some p => { f with body := .pose p, seq := none }
    let ended (r : Receiver) : ChannelState := { s.channel with
      attempt := none, queue := xs ++ ys ++ offered, pendingPose := none, receiver := r }
    let counted : StartUpState := { s.startUp with counters := { s.startUp.counters with
      txGiveUps := min 65535 (s.startUp.counters.txGiveUps + 1) } }
    let channelEntry (v : Nat) : GovernorState := { s.governor with limits := { s.governor.limits with channel := v } }
    (a.startUs + a.bytes.length * 32 ≤ now → f.body.isPose = false →
      exec (.attemptSuccess dt) s = .next { advance dt s with channel := ended rest }) ∧
    (a.startUs + a.bytes.length * 32 ≤ now → ∀ p, f.body = .pose p →
      exec (.attemptSuccess dt) s = .next { advance dt s with
        channel := { ended rest with poseGiveUps := 0, txFail := false }
        governor := channelEntry (if s.channel.deaf = true then 0 else 4000)
        zone := { s.zone with refusedPending := s.zone.refusedPending && !p.isRefused } }) ∧
    (now < a.startUs + a.bytes.length * 32 → exec (.attemptSuccess dt) s = .next (advance dt s)) ∧
    (f.attempts < 3 → exec (.collision dt) s = .next { advance dt s with channel := { s.channel with
      attempt := none
      pendingPose := none
      queue := xs ++ { kept with
        status := .retrying (now + (f.attempts * 2000 + s.cfg.vehicleId % 16 * 20)) } :: ys } }) ∧
    (3 ≤ f.attempts → f.body.isPose = false → exec (.collision dt) s = .next { advance dt s with
      channel := ended s.channel.receiver, startUp := counted }) ∧
    (3 ≤ f.attempts → f.body.isPose = true → s.channel.poseGiveUps ≠ 4 →
      exec (.collision dt) s = .next { advance dt s with
        channel := { ended s.channel.receiver with poseGiveUps := s.channel.poseGiveUps + 1 }, startUp := counted }) ∧
    (3 ≤ f.attempts → f.body.isPose = true → s.channel.poseGiveUps = 4 →
      exec (.collision dt) s = .next { advance dt s with
        channel := { ended s.channel.receiver with poseGiveUps := 5, txFail := true }
        governor := channelEntry 0
        startUp := { counted with
          faults := s.startUp.faults.put true .txFail
          first := if s.startUp.faults = FaultSet.empty then some (.txFail, (advance dt s).rideTime)
            else s.startUp.first } })

/-- ANNOUNCE_TIMER_EXPIRY in RUN: the next expiry is one announce period after this one, and a POSE built from the part
as it stands is offered: it joins a queue that has room and no POSE, replaces a queued POSE in place, with its attempts
and its retry wait, as new content, or waits beside the queue while a POSE is under transmission. A command whose event
is not due changes nothing but the time (DESIGN CHOICE, notes/assumptions/5.md; DEDUCED, notes/assumptions/13.md). -/
def Obligations.AnnounceTimerOffersAPose : Prop :=
  ∀ (dt due : Nat) (s : State), s.zone.announceDue = some due →
    let now := s.nowUs + dt
    let u : State := { advance dt s with zone := { s.zone with
      announceDue := some (due + s.cfg.announcePeriod * 1000) } }
    let next := s.path.window.bind fun w => w.next
    let pose : PoseBody := {
      here := s.path.window.map fun w => w.here
      distance := match next with
        | none => 65535
        | some n => min 65535 (n.mark - s.path.odometer)
      speed := s.path.speed
      period := s.cfg.announcePeriod
      isUnknown := decide (s.path.pos = .unknown)
      isAdrift := decide (s.path.pos = .adrift)
      isFault := s.anyBarFault || s.governor.causes.any
      isStopped := decide (s.path.speed = 0)
      isRefused := s.zone.refusedPending
      binding := s.governor.limits.binding.code
      held := s.zone.hold.map fun h => h.item
      claim := match s.zone.claim with
        | some ⟨it, .listen _ _⟩ => some it
        | _ => none }
    (s.startUp.run = .run → due ≤ now →
      (s.channel.queue.length < 6 → (∀ g ∈ s.channel.queue, g.body.isPose = false) →
        exec (.announceTimerExpiry dt) s = .next { u with channel := { s.channel with
          queue := s.channel.queue ++ [⟨0, .pose pose, 0, none, .queued⟩] } }) ∧
      (∀ xs g ys, s.channel.queue = xs ++ g :: ys → (∀ x ∈ xs ++ ys, x.body.isPose = false) → g.body.isPose = true →
        (g.status ≠ .onAir → exec (.announceTimerExpiry dt) s = .next { u with channel := { s.channel with
          queue := xs ++ { g with body := .pose pose, seq := none } :: ys } }) ∧
        (g.status = .onAir → exec (.announceTimerExpiry dt) s = .next { u with channel := { s.channel with
          pendingPose := some pose } }))) ∧
    (s.startUp.run ≠ .run ∨ now < due → exec (.announceTimerExpiry dt) s = .next (advance dt s))

/-- CLAIM_WINDOW_EXPIRY of a claim in LISTEN: it completes when its window has passed, every peer of its evidence set
has been heard, its item conflicts with no item in the neighbour table, and the part is not DEAF. The item then joins
the hold list at the front with no release mark, and a here item it covers is confirmed; a claim for the wanted item
then starts (Safety.lean, ClaimStarts), and one POSE is offered at once, which shows both (PoseOffered). Otherwise, or
with no claim in LISTEN, nothing changes. A command whose event is not due changes nothing but the time (DESIGN CHOICE,
notes/assumptions/5.md; DEDUCED, notes/assumptions/13.md). -/
def Obligations.ClaimWindowCompletesTheClaim : Prop :=
  (∀ (dt start : Nat) (it : ZoneItem) (ev : List Evidence) (s : State), s.zone.claim = some ⟨it, .listen start ev⟩ →
    let ready := s.cfg.claimWindow * s.cfg.announcePeriod ≤ (advance dt s).elapsedSince start ∧
      (∀ e ∈ ev, e.heard = true) ∧
      (∀ (k : Fin 31) (n : Neighbour), s.zone.neighbours[k] = some n →
        (∀ x ∈ n.held, x.conflicts it = false) ∧ ∀ x, n.claim = some x → x.conflicts it = false) ∧
      s.channel.deaf = false
    (ready → ∃ t, exec (.claimWindowExpiry dt) s = .next t ∧ t.zone.hold = s.zone.hold ++ [⟨it, none⟩] ∧
      t.zone.neighbours = s.zone.neighbours ∧ (∀ c, t.zone.claim = some c → c.item ≠ it) ∧
      ClaimStarts { advance dt s with zone := { s.zone with hold := s.zone.hold ++ [⟨it, none⟩], claim := none } } t ∧
      (∀ w, s.path.window = some w → it.covers w.here = true → t.path.window = some { w with confirmed := true }) ∧
      (s.path.window = none → t.path = s.path) ∧ t.governor.causes = s.governor.causes ∧
      t.startUp.faults = s.startUp.faults ∧ t.scanner = s.scanner ∧ t.steering = s.steering ∧
      t.restraints = s.restraints ∧ t.cues = s.cues ∧ t.sound = s.sound ∧ t.content = s.content ∧
      PoseOffered (advance dt s) t) ∧
    (¬ready → exec (.claimWindowExpiry dt) s = .next (advance dt s))) ∧
  (∀ (dt : Nat) (s : State), (∀ it start ev, s.zone.claim ≠ some ⟨it, .listen start ev⟩) →
    exec (.claimWindowExpiry dt) s = .next (advance dt s))

/-! ### Drive and steering -/

/-- DRIVE_PERIOD at a boundary of the period timer: the next width comes into force; the target goes up to the limit by
the acceleration or down to it by the service deceleration, each step with the remainder carried in its direction; a
curve that has fallen more than 100 mm/s below the step is a breach, which sets the target to the limit, puts a brake in
OFF or HOLD into ASSIST and counts; the next width follows the new target. Before the boundary nothing happens. That the
end of ASSIST, the standstill timer and the overspeed condition are tested on the new target in the same period is
DEDUCED (notes/assumptions/17.md). A command whose event is not due changes nothing but the time (DESIGN CHOICE,
notes/assumptions/5.md; DEDUCED, notes/assumptions/13.md). -/
def Obligations.DrivePeriodRampsTheTarget : Prop :=
  ∀ (dt : Nat) (s : State),
    let g := s.governor
    let limit := g.limits.effective
    let dir := if g.target ≤ limit then RampDirection.up else .down
    let rate := if g.target ≤ limit then s.cfg.acceleration else s.cfg.serviceDecel
    let rem := rate + (if g.rampDirection = dir then g.rampRemainder else 0)
    let step := rem / 1000
    let breach := limit < g.target ∧ limit + step + 100 < g.target ∧
      (g.limits.binding = .cap ∨ g.limits.binding = .zone ∨ g.limits.binding = .load)
    let target := if g.target ≤ limit then min limit (g.target + step)
      else if breach then limit else max limit (g.target - step)
    let assist := breach ∧ (g.brake = .off ∨ g.brake = .hold ∨ g.brake = .assist)
    let released := g.brake = .hold ∧ g.target = 0 ∧ 0 < target
    (g.periodDue ≤ s.nowUs + dt → ∃ t, exec (.drivePeriod dt) s = .next t ∧
      t = { advance dt s with governor := t.governor, startUp := { s.startUp with
        counters := { s.startUp.counters with curveBreaches :=
          (if breach then min 65535 (s.startUp.counters.curveBreaches + 1)
            else s.startUp.counters.curveBreaches) } } } ∧
      t.governor.periodDue = g.periodDue + 1000 ∧ t.governor.width = g.nextWidth ∧ t.governor.target = target ∧
      t.governor.rampRemainder = (if target = limit then 0 else rem % 1000) ∧
      t.governor.rampDirection = (if target = limit then .none else dir) ∧
      t.governor.nextWidth = (if s.startUp.run = .run ∧ g.limits.safety ≠ 0 then
        min 1000 (target * 1000 / s.cfg.fullScale) else 0) ∧
      t.governor.limits = g.limits ∧ t.governor.causes = g.causes ∧
      t.governor.brake = (if (assist ∨ (g.brake = .assist ∧ ¬breach)) then
          (if s.path.speed ≤ limit then .off else .assist)
        else if released then .off else g.brake) ∧
      t.governor.standstill = (if s.path.speed = 0 ∧ target = 0 then
          (if g.standstill = .idle then .running (s.nowUs + dt + 500000) else g.standstill)
        else .idle) ∧
      t.governor.overspeedDue = (if s.startUp.run = .run ∧ g.causes.any = false then
          (if max limit target + s.cfg.overspeedMargin < s.path.speed then
            some (g.overspeedDue.getD (s.nowUs + dt + 200000)) else none)
        else g.overspeedDue)) ∧
    (s.nowUs + dt < g.periodDue → exec (.drivePeriod dt) s = .next (advance dt s))

/-- SCAN_END of the GUIDE list. A weak frame, whose sum is 0 or below the guide minimum, only moves the guide state:
FADING with the guide loss timer started, then FADING, then WEAK with GUIDE at the crawl speed. A good frame makes its
offset the last offset, sets the pending width, unless speed and target are both 0, and returns the guide state to GOOD
with GUIDE at 4000. The list becomes IDLE, and a RESTRAINT list that waits starts. GUIDE_LOSS_EXPIRY makes the state
LOST, with GUIDE 0 and GUIDE_LOST raised. A command whose event is not due changes nothing but the time (DESIGN CHOICE,
notes/assumptions/5.md; DEDUCED, notes/assumptions/13.md). -/
def Obligations.GuideFramesSteerAndJudgeTheGuide : Prop :=
  (∀ (dt : Nat) (channels : Vector Conversion 10) (s : State) (w : WorkingLimits),
    s.scanner.guideList = .running → s.steering.working = some w →
    let now := s.nowUs + dt
    let l := channels[8].toNat
    let r := channels[9].toNat
    let y := s.steering
    let offset := lateralOffset s.cfg.guideRange l r
    let raw : Int := w.centre + s.cfg.kp * offset + (s.cfg.kd * (offset - y.lastOffset.getD offset)).tdiv 20
    let weak := l + r < s.cfg.guideMinimum ∨ l + r = 0
    let entry (v : Nat) : GovernorState := { s.governor with limits := { s.governor.limits with guide := v } }
    let after (steering : SteeringState) (governor : GovernorState) : State := { advance dt s with
      steering := steering
      governor := governor
      scanner := if s.scanner.restraintList = .pending then
          { s.scanner with
            guideList := .idle
            guideResult := some (l, r)
            restraintList := .running
            scanDue := some (now + s.cfg.restraintCount * 10) }
        else { s.scanner with guideList := .idle, guideResult := some (l, r), scanDue := none } }
    ((∃ d, s.scanner.scanDue = some d ∧ d ≤ now) →
      (weak → exec (.scanEnd dt channels) s = .next (match y.guide with
        | .good => after { y with
            guide := .fading, weakCount := 1, lossDue := some (now + s.cfg.guideLossTime * 1000) } s.governor
        | .fading => if y.weakCount < 2 then after { y with weakCount := 2 } s.governor
          else after { y with guide := .weak, weakCount := 3 } (entry s.cfg.crawlSpeed)
        | .weak => after y s.governor
        | .lost => after y s.governor)) ∧
      (¬weak → exec (.scanEnd dt channels) s = .next (after { y with
        lastOffset := some offset
        pendingWidth := if s.path.speed = 0 ∧ s.governor.target = 0 then y.pendingWidth
          else some (max ((y.width : Int) - s.cfg.slew) (min ((y.width : Int) + s.cfg.slew)
            (max (w.low : Int) (min (w.high : Int) raw)))).toNat
        guide := .good
        weakCount := 0
        lossDue := none } (entry 4000)))) ∧
    (¬(∃ d, s.scanner.scanDue = some d ∧ d ≤ now) → exec (.scanEnd dt channels) s = .next (advance dt s))) ∧
  (∀ (dt : Nat) (s : State),
    let due := ∃ d, s.steering.lossDue = some d ∧ d ≤ s.nowUs + dt
    (due → exec (.guideLossExpiry dt) s = .next { advance dt s with
      steering := { s.steering with guide := .lost, weakCount := 3, lossDue := none }
      governor := { s.governor with limits := { s.governor.limits with guide := 0 } }
      startUp := { s.startUp with
        faults := s.startUp.faults.put true .guideLost
        first := if s.startUp.faults = FaultSet.empty then some (.guideLost, (advance dt s).rideTime)
          else s.startUp.first } }) ∧
    (¬due → exec (.guideLossExpiry dt) s = .next (advance dt s)))

/-! ### Restraints -/

/-- The end of a RESTRAINT scan, the acceptance of a latch level after 20 ms, and the expiry of a suspect timer. Each
position, or the latch level, is taken; once judging is ACTIVE, from the first record 20 ms after RUN on, a restraint
moves: with a good lock OPEN, LOCKED and SUSPECT become LOCKED; without one they become or stay OPEN at load standstill,
and otherwise OPEN goes to FAULT, LOCKED to SUSPECT for the suspect time, and SUSPECT stays. FAULT stays. A SUSPECT bar
whose time is over goes to FAULT, which raises RESTRAINT, sets its entry to 0 and voids dispatch-ready. Each of the
three begins the restraint stop with the first restraint in FAULT (Safety.lean, RestraintStopBegun): the show is
suspended and the spiel starts, and one POSE is offered at once, also during a safety stop, where R43 and R45 can be
read as asking for none (DESIGN CHOICE, notes/assumptions/46.md). Otherwise the show stays. That a voice which becomes
IDLE has its whole record cleared is DEDUCED (notes/assumptions/19.md). A command whose event is not due changes nothing
but the time (DESIGN CHOICE, notes/assumptions/5.md; DEDUCED, notes/assumptions/13.md). -/
def Obligations.RestraintsAreJudgedAtTheirEvents : Prop :=
  ∀ (dt : Nat) (s : State),
    let now := s.nowUs + dt
    let stops (t : State) : Prop :=
      (s.anyBarFault = false → t.anyBarFault = true → RestraintStopBegun (advance dt s) t) ∧
      (s.anyBarFault = true ∨ t.anyBarFault = false → ShowKept (advance dt s) t) ∧ PoseAtOnce (advance dt s) t
    let judged (b b' : Bar) : Prop := BarJudged (advance dt s) (s.loadStandstill = true) b b'
    (∀ channels : Vector Conversion 10, s.scanner.guideList ≠ .running →
      ((∃ d, s.scanner.scanDue = some d ∧ d ≤ now) → ∃ t, exec (.scanEnd dt channels) s = .next t ∧
        t.restraints.judging = (s.restraints.judging || decide (s.restraints.judgeFrom ≤ now)) ∧
        (∀ i : Fin 8, i.val < s.cfg.restraintCount →
          let b : Bar := { s.restraints.bars[i] with position := some (channels[i.val]).toNat }
          (t.restraints.judging = false → t.restraints.bars[i] = b) ∧
          (t.restraints.judging = true → judged b t.restraints.bars[i])) ∧
        (∀ i : Fin 8, s.cfg.restraintCount ≤ i.val → t.restraints.bars[i] = s.restraints.bars[i]) ∧
        ((∃ i : Fin 8, t.restraints.bars[i].state ≠ s.restraints.bars[i].state) → t.restraints.ready = false) ∧
        t.scanner.restraintResult = some ((channels.toList.take s.cfg.restraintCount).map BitVec.toNat) ∧
        t.scanner.restraintList = .idle ∧
        t.scanner.guideList = (if s.scanner.guideList = .pending then .running else s.scanner.guideList) ∧
        t.scanner.scanDue = (if s.scanner.guideList = .pending then some (now + 20) else none) ∧ stops t ∧
        t.path = s.path ∧ t.zone = s.zone ∧ t.steering = s.steering ∧ t.governor.causes = s.governor.causes) ∧
      (¬(∃ d, s.scanner.scanDue = some d ∧ d ≤ now) → exec (.scanEnd dt channels) s = .next (advance dt s))) ∧
    (∀ i : Fin 8,
      let x := s.scanner.latches[i]
      let raw := if x.high = s.cfg.latchPolarity.getLsbD i.val then LatchState.closed else .opened
      let b : Bar := { s.restraints.bars[i] with latch := raw }
      let due := s.startUp.run = .run ∧ i.val < s.cfg.restraintCount ∧ ∃ d, x.settleDue = some d ∧ d ≤ now
      (due → raw = x.accepted → exec (.latchSettleExpiry dt (i.val + 1)) s = .next { advance dt s with
        scanner := { s.scanner with latches := s.scanner.latches.set i { x with settleDue := none } } }) ∧
      (due → raw ≠ x.accepted → ∃ t, exec (.latchSettleExpiry dt (i.val + 1)) s = .next t ∧
        t.scanner.latches = s.scanner.latches.set i { x with accepted := raw, settleDue := none } ∧
        (s.restraints.judging = false → t.restraints.bars[i] = b) ∧
        (s.restraints.judging = true → judged b t.restraints.bars[i]) ∧
        (∀ j : Fin 8, j ≠ i → t.restraints.bars[j] = s.restraints.bars[j]) ∧
        (s.scanner.restraintList = .idle → s.scanner.scanDue = none →
          t.scanner.restraintList = .running ∧ t.scanner.scanDue = some (now + s.cfg.restraintCount * 10)) ∧
        (s.scanner.restraintList = .idle → s.scanner.scanDue ≠ none → t.scanner.restraintList = .pending) ∧ stops t ∧
        t.path = s.path ∧ t.zone = s.zone ∧ t.steering = s.steering ∧ t.governor.causes = s.governor.causes) ∧
      (¬due → exec (.latchSettleExpiry dt (i.val + 1)) s = .next (advance dt s))) ∧
    (∀ i : Fin 8,
      let b := s.restraints.bars[i]
      let due := s.restraints.judging = true ∧ b.state = .suspect ∧ ∃ d, b.suspectDue = some d ∧ d ≤ now
      (due → ∃ t, exec (.suspectTimerExpiry dt (i.val + 1)) s = .next t ∧
        t.restraints.bars = s.restraints.bars.set i { b with state := .fault, suspectDue := none } ∧
        t.restraints.ready = false ∧ t.startUp.faults = s.startUp.faults.put true .restraint ∧
        t.governor.limits.restraint = 0 ∧ t.governor.causes = s.governor.causes ∧
        (s.anyBarFault = false → t.cues.restraintStop = true ∧
          t.restraints.spielDue = some (now + s.cfg.spielRepeat * 1000000)) ∧ stops t ∧
        t.path = s.path ∧ t.zone = s.zone ∧ t.steering = s.steering ∧ t.scanner = s.scanner) ∧
      (¬due → exec (.suspectTimerExpiry dt (i.val + 1)) s = .next (advance dt s)))

/-! ### Cues, effects and sound -/

/-- Timers whose expiry is whole in one block or two; one that does not run, or has not run out, does nothing.
RETRY_WAIT_EXPIRY frees each frame whose retry wait is over and no other. DEAF_TIMER_EXPIRY makes the part DEAF with
CHANNEL 0, does not restart the timer, and enters no fault. RESTRAINT_SCAN_TIMER_EXPIRY and SERVO_FRAME_START, in RUN,
each trigger their list and set their next time; a frame start also brings the pending width into force. An IDLE list
starts its scan when the converter is FREE, 10 µs a channel, and waits as PENDING when it is BUSY; a list that is
PENDING or RUNNING merges the trigger, which counts one scan overrun. STANDSTILL_TIMER_EXPIRY puts a brake in OFF into
HOLD; SHOW_HOLD_EXPIRY ends the show hold with SHOW at 4000; EFFECT_TIMER_EXPIRY turns a pulse OFF and a blink to its
other phase; IDLE_TIMER_EXPIRY takes a MUTED amplifier to STANDBY, with the sample on I²S as it was (DESIGN CHOICE,
notes/assumptions/48.md). A command whose event is not due changes nothing but the time (DESIGN CHOICE,
notes/assumptions/5.md; DEDUCED, notes/assumptions/13.md). -/
def Obligations.SimpleTimersExpire : Prop :=
  (∀ (dt : Nat) (s : State),
    let now := s.nowUs + dt
    let freed (g : TxFrame) : TxFrame := match g.status with
      | .retrying d => if d ≤ now then { g with status := .queued } else g
      | _ => g
    let due := ∃ d, s.channel.deafDue = some d ∧ d ≤ now
    exec (.retryWaitExpiry dt) s = .next { advance dt s with channel := { s.channel with
      queue := s.channel.queue.map freed } } ∧
    (due → exec (.deafTimerExpiry dt) s = .next { advance dt s with
      channel := { s.channel with deaf := true, deafDue := none }
      governor := { s.governor with limits := { s.governor.limits with channel := 0 } } }) ∧
    (¬due → exec (.deafTimerExpiry dt) s = .next (advance dt s))) ∧
  (∀ (dt due : Nat) (s : State), s.startUp.run = .run →
    let now := s.nowUs + dt
    let x := s.scanner
    let counted : StartUpState := { s.startUp with counters := { s.startUp.counters with
      scanOverruns := min 65535 (s.startUp.counters.scanOverruns + 1) } }
    let y : ScannerState := { x with timerDue := some (due + s.cfg.restraintScanPeriod * 1000) }
    let z : SteeringState := { s.steering with
      width := s.steering.pendingWidth.getD s.steering.width
      pendingWidth := none
      frameStart := some now
      frameDue := some (due + 20000) }
    (x.timerDue = some due → due ≤ now → exec (.restraintScanTimerExpiry dt) s = .next (match x.restraintList with
      | .idle => { advance dt s with scanner :=
          if x.scanDue = none then
            { y with restraintList := .running, scanDue := some (now + s.cfg.restraintCount * 10) }
          else { y with restraintList := .pending } }
      | .pending => { advance dt s with scanner := y, startUp := counted }
      | .running => { advance dt s with scanner := y, startUp := counted })) ∧
    (x.timerDue = none ∨ (x.timerDue = some due ∧ now < due) →
      exec (.restraintScanTimerExpiry dt) s = .next (advance dt s)) ∧
    (s.steering.frameDue = some due → due ≤ now → exec (.servoFrameStart dt) s = .next (match x.guideList with
      | .idle => { advance dt s with
          steering := z
          scanner := if x.scanDue = none then { x with guideList := .running, scanDue := some (now + 20) }
            else { x with guideList := .pending } }
      | .pending => { advance dt s with steering := z, startUp := counted }
      | .running => { advance dt s with steering := z, startUp := counted })) ∧
    (s.steering.frameDue = none ∨ (s.steering.frameDue = some due ∧ now < due) →
      exec (.servoFrameStart dt) s = .next (advance dt s))) ∧
  (∀ (dt : Nat) (s : State),
    let now := s.nowUs + dt
    let u := advance dt s
    (∀ d, s.governor.standstill = .running d → d ≤ now → exec (.standstillTimerExpiry dt) s = .next { u with
      governor := { s.governor with
        standstill := .spent, brake := if s.governor.brake = .off then .hold else s.governor.brake } }) ∧
    ((∀ d, s.governor.standstill = .running d → now < d) → exec (.standstillTimerExpiry dt) s = .next u) ∧
    (∀ d, s.cues.hold = .running d → d ≤ u.rideCount → exec (.showHoldExpiry dt) s = .next { u with
      cues := { s.cues with hold := .none }
      governor := { s.governor with limits := { s.governor.limits with showHold := 4000 } } }) ∧
    ((∀ d, s.cues.hold = .running d → u.rideCount < d) → exec (.showHoldExpiry dt) s = .next u) ∧
    (∀ i : Fin 8,
      let set (m : EffectMode) : State := { u with cues := { s.cues with effects := s.cues.effects.set i m } }
      (∀ d, s.cues.effects[i] = .pulse d →
        exec (.effectTimerExpiry dt (i.val + 1)) s = .next (if d ≤ now then set .off else u)) ∧
      (∀ high low phase d, s.cues.effects[i] = .blink high low phase d →
        exec (.effectTimerExpiry dt (i.val + 1)) s = .next
          (if d ≤ now then set (.blink high low (!phase) (d + (if phase then low else high) * 1000)) else u)) ∧
      (s.cues.effects[i] = .on ∨ s.cues.effects[i] = .off →
        exec (.effectTimerExpiry dt (i.val + 1)) s = .next u)) ∧
    (∀ d, s.sound.amp = .muted d → d ≤ now → exec (.idleTimerExpiry dt) s = .next { u with
      sound := { s.sound with amp := .standby } }) ∧
    ((∀ d, s.sound.amp = .muted d → now < d) → exec (.idleTimerExpiry dt) s = .next u))

/-- SPIEL_REPEAT_EXPIRY with content that failed its check asks for nothing but sets its next time; with good content,
the amplifier ACTIVE, the show voices quiet and room in the Content Reader it restarts voice 0 in STARTING on the spiel
clip at gain 128, unlocked. FADE_END makes a STOPPING voice whose fade is over IDLE. LOCKED_VOICE_TICK leaves an
unlocked voice and one that is not STARTING with its entry as they are. It makes a locked one without loop whose
expected position is past its end IDLE. One whose expected position is 0 or more plays at it, the amplifier ACTIVE and
its start block resident. Any other keeps its start block, a change of which upkeeps its wants, as a start block that is
not resident does. WAKE_TIMER_EXPIRY makes the amplifier ACTIVE, and at once MUTED, or STANDBY for an idle threshold of
0, when every voice is or becomes quiet; every voice in STARTING is tested, whatever the others do, so that each whose
other conditions hold plays, and no other voice changes. A change of the start block to one that is not resident is one
upkeep (DESIGN CHOICE, notes/assumptions/43.md). That a voice which becomes IDLE has its whole record cleared is the
model's reading (DEDUCED, notes/assumptions/19.md; what a cleared record holds is DESIGN CHOICE,
notes/assumptions/3.md). A command whose event is not due changes nothing but the time (DESIGN CHOICE,
notes/assumptions/5.md; DEDUCED, notes/assumptions/13.md). -/
def Obligations.VoiceTimersExpire : Prop :=
  ∀ (dt : Nat) (s : State),
    let now := s.nowUs + dt
    let u := advance dt s
    let sound (x : SoundState) : State := { u with sound := x }
    (∀ d, s.restraints.spielDue = some d → d ≤ now →
      (s.content.check = .bad → exec (.spielRepeatExpiry dt) s = .next { u with
        restraints := { s.restraints with spielDue := some (d + s.cfg.spielRepeat * 1000000) } }) ∧
      (s.startUp.run = .run → s.content.check = .pass → s.sound.amp = .active → s.content.queue.length < 96 →
        (∀ v : Fin 4, v ≠ 0 → s.sound.voices[v].state = .idle ∨ s.sound.voices[v].state = .paused) →
        ∃ t, exec (.spielRepeatExpiry dt) s = .next t ∧
          t.restraints = { s.restraints with spielDue := some (d + s.cfg.spielRepeat * 1000000) } ∧
          t.sound.voices = s.sound.voices.set 0 { Voice.clear with
            state := .starting, clip := s.cfg.spielClip, gain := 128 } ∧
          t.sound.amp = .active ∧ t.path = s.path ∧ t.zone = s.zone ∧ t.governor = s.governor ∧
          t.scanner = s.scanner ∧ t.cues = s.cues ∧ t.startUp = s.startUp)) ∧
    ((∀ d, s.restraints.spielDue = some d → now < d) → exec (.spielRepeatExpiry dt) s = .next u) ∧
    (∀ v : Fin 4,
      let x := s.sound.voices[v]
      (∀ f, x.state = .stopping → x.fade = some f →
        (f.length ≤ u.rideCount - f.beganMs → ∃ t, exec (.fadeEnd dt v.val) s = .next t ∧
          t.sound.voices = s.sound.voices.set v Voice.clear ∧ t.path = s.path ∧ t.zone = s.zone ∧
          t.governor = s.governor ∧ t.cues = s.cues ∧ t.restraints = s.restraints) ∧
        (u.rideCount - f.beganMs < f.length → exec (.fadeEnd dt v.val) s = .next u)) ∧
      (x.state ≠ .stopping → exec (.fadeEnd dt v.val) s = .next u) ∧
      (x.lock = none ∨ x.state ≠ .starting ∨ x.entry = none → exec (.lockedVoiceTick dt v.val) s = .next u) ∧
      (∀ e, x.lock ≠ none → x.state = .starting → x.entry = some e →
        let p := startPlace u x e
        let k := p.toNat / 256
        let part (y : Voice) (cache : Vector CacheSet 32) : State := sound { s.sound with
          voices := s.sound.voices.set v y, cache := cache }
        let noted : State := part { x with startBlock := some k } s.sound.cache
        x.loop = true ∨ p < e.samples →
          (∀ w data, s.sound.amp = .active → 0 ≤ p → copiesOf s (e.start + k) = [(w, data)] →
            let plays : State := part { x with
              state := .playing, position := p.toNat, buffer := some ⟨k, data⟩, waiting := false, startBlock := none }
              (cacheTaken s (e.start + k) w)
            exec (.lockedVoiceTick dt v.val) s = .next (if x.startBlock = some k then plays else upkeep v.val plays)) ∧
          (s.sound.amp ≠ .active ∨ p < 0 → copiesOf s (e.start + k) ≠ [] →
            exec (.lockedVoiceTick dt v.val) s = .next (if x.startBlock = some k then u else upkeep v.val noted)) ∧
          (copiesOf s (e.start + k) = [] → exec (.lockedVoiceTick dt v.val) s = .next (upkeep v.val noted))) ∧
      (∀ l e p, x.lock = some l → x.state = .starting → x.entry = some e → x.loop = false →
        sceneTime u l.scene = some p → (e.samples : Int) ≤ ((p : Int) - l.start) * 24 →
        ∃ t, exec (.lockedVoiceTick dt v.val) s = .next t ∧
          t.sound.voices = s.sound.voices.set v Voice.clear ∧ t.path = s.path ∧ t.zone = s.zone ∧
          t.governor = s.governor ∧ t.cues = s.cues ∧ t.restraints = s.restraints)) ∧
    (∀ d, s.sound.amp = .waking d → d ≤ now → (∀ v : Fin 4, s.sound.voices[v].state ≠ .starting) →
      exec (.wakeTimerExpiry dt) s = .next (sound { s.sound with amp :=
        (if (∀ v : Fin 4, s.sound.voices[v].state = .idle ∨ s.sound.voices[v].state = .paused) then
          (if s.cfg.idleValue * s.cfg.idleScale = 0 then .standby
            else .muted (now + s.cfg.idleValue * s.cfg.idleScale * 1000))
        else .active) })) ∧
    (∀ d, s.sound.amp = .waking d → d ≤ now → ∃ t, exec (.wakeTimerExpiry dt) s = .next t ∧
      (∀ v : Fin 4,
        let x := s.sound.voices[v]
        let y := t.sound.voices[v]
        (x.state ≠ .starting ∨ x.entry = none → y = x) ∧
        ∀ e, x.state = .starting → x.entry = some e →
          StartTested u True x e y ∧ (y.state = .starting → y.startBlock = x.startBlock)) ∧
      t.sound.amp = (if (∀ v : Fin 4, t.sound.voices[v].state = .idle ∨ t.sound.voices[v].state = .paused) then
        ampQuiet u else .active) ∧
      t.path = s.path ∧ t.zone = s.zone ∧ t.governor = s.governor ∧ t.cues = s.cues ∧ t.restraints = s.restraints) ∧
    ((∀ d, s.sound.amp = .waking d → now < d) → exec (.wakeTimerExpiry dt) s = .next u)

/-- OUTPUT_PERIOD at its time. In RUN with the amplifier ACTIVE the sample is the sum of the contributions of the voices
that are PLAYING or STOPPING and do not wait, floor(sample × gain ÷ 128) each, those of voices 1 to 3 ducked while voice
0 is PLAYING, times the master gain ÷ 128, saturated to 16 bits; otherwise it is 0. In RUN a voice in PLAYING or
STOPPING that does not wait advances by one sample, at every 64th sample since its trim was set by 0 to repeat or by 2
to skip, and the trim's count falls by 1, which ends it at 0; that the 64th sample itself goes out as it is, and the
repeat or the skip follows it, is the model's choice (DESIGN CHOICE, notes/assumptions/49.md). One that passes the last
sample of its clip is IDLE without loop and goes on from sample 0 with loop, after a skip from the block before a last
block of one sample too (DESIGN CHOICE, notes/assumptions/52.md). At the end of a block a pending jump takes a voice
with a valid scene clock to its expected position, IDLE past the end of a clip without loop and in STARTING again before
its start; then the needed block is taken when it is resident, or else the voice underruns, waiting, with its counter
one up and the underrun record overwritten; either way it upkeeps its wants. A voice that waits or does not play stays.
Outside RUN nothing else changes, and before its time nothing at all. That the periods begin at whole multiples of 125/3
µs from power-on is the model's choice (DESIGN CHOICE, notes/assumptions/3.md), and that a sample's more significant
byte comes first is DEDUCED (notes/assumptions/9.md), and so are sample 0 after a skip over a loop's end and what a
record keeps in IDLE and in STARTING (notes/assumptions/19.md). A command whose event is not due changes nothing but the
time (DESIGN CHOICE, notes/assumptions/5.md; DEDUCED, notes/assumptions/13.md). -/
def Obligations.OutputPeriodMixesTheVoices : Prop :=
  ∀ (dt : Nat) (s : State),
    let u := advance dt s
    let part (v : Fin 4) : Int :=
      let x := s.sound.voices[v]
      if (x.state = .playing ∨ x.state = .stopping) ∧ x.waiting = false then
        match x.buffer with
        | none => 0
        | some b => sampleAt b.data (x.position % 256) * effectiveGain u x / 128
      else 0
    let ducked (v : Fin 4) : Int :=
      if s.sound.voices[(0 : Fin 4)].state = .playing then part v * s.cfg.duck / 128 else part v
    let sum := (part 0 + ducked 1 + ducked 2 + ducked 3) * s.cfg.masterGain / 128
    let sample := if s.startUp.run = .run ∧ s.sound.amp = .active then max (-32768) (min 32767 sum) else 0
    let atTime := s.sound.outputCount * 125 ≤ (s.nowUs + dt) * 3
    let sounds (v : Fin 4) : Prop :=
      (s.sound.voices[v].state = .playing ∨ s.sound.voices[v].state = .stopping) ∧ s.sound.voices[v].waiting = false
    (atTime → ∃ t, exec (.outputPeriod dt) s = .next t ∧ t.sound.output = sample ∧
      t.sound.outputCount = s.sound.outputCount + 1 ∧
      (∀ v : Fin 4, ¬sounds v → s.sound.voices[v].state ≠ .starting → t.sound.voices[v] = s.sound.voices[v]) ∧
      (∀ (v : Fin 4) (b : PlayBuffer) (e : ClipEntry), s.startUp.run = .run →
        let x := s.sound.voices[v]
        let y := t.sound.voices[v]
        sounds v → x.buffer = some b → x.entry = some e →
        let turn : Bool := match x.trim with
          | none => false
          | some r => (r.outputs + 1) % 64 == 0
        let trim : Option Trim := match x.trim with
          | none => none
          | some r =>
            if turn = false then some { r with outputs := r.outputs + 1 }
            else if r.remaining ≤ 1 then none
            else some ⟨r.drop, r.remaining - 1, r.outputs + 1⟩
        let next : Nat := match x.trim with
          | none => x.position + 1
          | some r => if turn = false then x.position + 1 else if r.drop = true then x.position + 2 else x.position
        let ended : Prop := e.samples ≤ next
        let place : Nat := if ended then 0 else next
        let takes (z : Voice) : Prop :=
          let k := z.position / 256
          let now (j : Voice) (q : SoundState) (c : StartUpState) : State := upkeep v.val { u with
            sound := { q with output := sample, outputCount := s.sound.outputCount + 1, voices := s.sound.voices.set v j }
            startUp := c }
          (∀ w data, copiesOf s (e.start + k) = [(w, data)] →
            t = now { z with buffer := some ⟨k, data⟩, waiting := false }
              { s.sound with cache := cacheTaken s (e.start + k) w } s.startUp) ∧
          (copiesOf s (e.start + k) = [] →
            t = now { z with waiting := true } { s.sound with underrun := some ⟨v.val, x.clip, k⟩ }
              (underran s.startUp v))
        (next < min ((b.block + 1) * 256) e.samples → y = { x with trim := trim, position := next }) ∧
        (min ((b.block + 1) * 256) e.samples ≤ next →
          (ended → x.loop = false → y = Voice.clear) ∧
          (x.loop = true ∨ ¬ended →
            (x.jump = false → (∀ o, o ≠ v → ¬sounds o) → takes { x with trim := trim, position := place }) ∧
            (∀ l time, x.jump = true → x.lock = some l → sceneTime u l.scene = some time →
              let p := startPlace u x e
              (x.loop = false → p < 0 → y = { x with
                state := .starting, position := place, buffer := none, trim := none, jump := false, waiting := false,
                fade := none, startBlock := some 0 }) ∧
              (x.loop = false → 0 ≤ p → e.samples ≤ p → y = Voice.clear) ∧
              (x.loop = true ∨ (0 ≤ p ∧ p < e.samples) → (∀ o, o ≠ v → ¬sounds o) →
                takes { x with trim := none, jump := false, position := p.toNat }))))) ∧
      t.path = s.path ∧ t.zone = s.zone ∧ t.governor = s.governor ∧ t.scanner = s.scanner ∧ t.cues = s.cues ∧
      t.restraints = s.restraints ∧ t.steering = s.steering ∧ t.channel = s.channel) ∧
    (atTime → s.startUp.run ≠ .run → exec (.outputPeriod dt) s = .next { u with
      sound := { s.sound with output := 0, outputCount := s.sound.outputCount + 1 } }) ∧
    (¬atTime → exec (.outputPeriod dt) s = .next u)

/-- What a judgement makes of a record. LOADING, it stays. ARMED, it is missed when the odometer is more than 8,192 mm
beyond its mark, when the window of a WITHIN compare, at most 4,095 mm, is behind, or when a BEFORE compare finds its
mark reached; otherwise it fires when its primary compare and its secondary condition, joined by AND or OR, or the
primary alone with NONE, are true; otherwise a BEFORE record is missed and any other stays. The scene time of a scene
with a valid clock is its value plus the time since its receipt, and no other scene has one. An evaluation, in RUN, not
suspended, with good content, takes the records that fire or are missed out of the list together, counts the missed,
counts as late an AT record that has just become ARMED with its mark behind and did not come by frame, and then performs
the actions of the records that fire, in list order. That missing comes before firing is DEDUCED
(notes/assumptions/18.md). -/
def Obligations.RecordsAreJudgedByTheirTriggers : Prop :=
  (∀ (s : State) (k : Fin 15), sceneTime s 0 = none ∧ sceneTime s (k.val + 1) =
    if s.cues.clocks[k].valid = true then
      some (((s.cues.clocks[k].value : Int) + s.rideTime - s.cues.clocks[k].receipt) % 4294967296).toNat
    else none) ∧
  (∀ (s : State) (r : ArmedRecord), r.entry = none → judgeRecord s r = .stays) ∧
  (∀ (s : State) (r : ArmedRecord) (e : CueEntry), r.entry = some e →
    let d := s.path.odometer
    let span := if 4095 < e.window then 4095 else e.window
    let missed := r.mark + 8192 < d ∨ (e.compare = .within ∧ r.mark + span < d) ∨ (e.compare = .before ∧ r.mark ≤ d)
    let primary : Prop := match e.compare with
      | .atMark => r.mark ≤ d
      | .within => r.mark ≤ d ∧ d ≤ r.mark + span
      | .before => d < r.mark
    let scene := match r.frameScene, s.path.window with
      | some (k, _), _ => k
      | none, some w => w.scene
      | none, none => 0
    let secondary : Prop := match e.secondary with
      | .none => True
      | .slowerThan v => s.path.speed < v
      | .sceneTime ms => ∃ time, sceneTime s scene = some time ∧ ms ≤ time
      | .pathClear => ∃ w, s.path.window = some w ∧
        ∀ (k : Fin 31) (n : Neighbour) (h : ZoneItem), s.zone.neighbours[k] = some n → n.here = some h →
          h.conflicts (match w.next with | some x => x.item | none => w.here) = false
    let true' := if e.secondary = .none then primary else if e.either = true then primary ∨ secondary
      else primary ∧ secondary
    (missed → judgeRecord s r = .missed) ∧
    (¬missed → true' → judgeRecord s r = .fires) ∧
    (¬missed → ¬true' → judgeRecord s r = if e.compare = .before then .missed else .stays)) ∧
  (∀ (s : State) (fresh : Option (Nat × Nat)),
    let open' := s.cues.restraintStop = false ∧ s.cues.safetyStop = false ∧ s.content.check ≠ .bad ∧ s.startUp.run = .run
    let left (l : List ArmedRecord) (late missed : Nat) : State := { s with
      cues := { s.cues with armed := l }
      startUp := { s.startUp with counters := { s.startUp.counters with
        lateCues := min 65535 (s.startUp.counters.lateCues + late)
        missedCues := min 65535 (s.startUp.counters.missedCues + missed) } } }
    let late (p : ArmedRecord × CueEntry) : Bool := decide (fresh = some (p.1.cue, p.1.mark) ∧ p.1.origin ≠ .frame ∧
      p.2.compare = .atMark ∧ p.1.mark < s.path.odometer)
    (¬open' → evaluate fresh s = s) ∧
    (open' → ∀ fired : List (ArmedRecord × CueEntry), (∀ p ∈ fired, p.1.entry = some p.2) →
      (s.cues.armed.filter fun r => judgeRecord s r == .fires) = fired.map Prod.fst →
      evaluate fresh s = fired.foldl (fun u p => p.2.actions.foldl (performAction p.1) u)
        (left (s.cues.armed.filter fun r => judgeRecord s r == .stays) (fired.countP late)
          (s.cues.armed.filter fun r => judgeRecord s r == .missed).length)) ∧
    (open' → ∃ fired : List (ArmedRecord × CueEntry), (∀ p ∈ fired, p.1.entry = some p.2) ∧
      (s.cues.armed.filter fun r => judgeRecord s r == .fires) = fired.map Prod.fst))

/-- The actions of a firing record `r`, in a part in RUN with good content, each as it acts by itself. PLAY of voice 1
to 3 restarts the voice in STARTING, or in PAUSED while the show is paused, with its clip, gain and loop flag, locked to
the record's scene and start time when it asks for that and the scene's clock is valid; while the show is not paused its
clip entry is asked for, and the amplifier wakes from STANDBY and leaves MUTED. STOP makes a voice IDLE, or STOPPING for
a fade when it is PLAYING. EFFECT sets the mode of its line. HOLD begins or extends the show hold, with SHOW 0. SEND
offers a CUE with the record's scene and start time, none when its start time is absent. ARM arms its cue at its
distance from the odometer and asks for its entry; into a full list it displaces the last record when its mark is
nearer, which is withdrawn if it was LOADING, and either way one cue is lost. An action that the rules skip counts one
content error and does nothing else. The distance of an ARM word above 4,095 is a free value (DESIGN CHOICE,
notes/assumptions/7.md), and a voice that becomes IDLE has its record cleared (DEDUCED, notes/assumptions/19.md). PIN
and UNPIN are `pinClip` and `unpinClip` of their clip, which CachesAndPinsHoldTheirBlocks has. -/
def Obligations.FiringRecordsPerformTheirActions : Prop :=
  ∀ (s : State) (r : ArmedRecord), s.startUp.run = .run → s.content.check = .pass →
    let skipped : State := { s with startUp := { s.startUp with counters := { s.startUp.counters with
      contentErrors := min 65535 (s.startUp.counters.contentErrors + 1) } } }
    let lost (x : StartUpState) : StartUpState := { x with counters := { x.counters with
      cuesLost := min 65535 (x.counters.cuesLost + 1) } }
    let scene := match r.frameScene, s.path.window with
      | some (k, _), _ => k
      | none, some w => w.scene
      | none, none => 0
    let start := match r.frameScene with
      | some (_, time) => some time
      | none => sceneTime s scene
    (∀ voice clip gain loop locked, voice = 0 ∨ 3 < voice →
      performAction r s (.play voice clip gain loop locked) = skipped) ∧
    (∀ (v : Fin 4) (clip gain : Nat) (loop locked : Bool), v ≠ 0 → s.content.queue.length ≤ 80 →
      (∀ d, s.sound.amp = .muted d → ∀ x : Fin 4, s.sound.voices[x].state ≠ .starting) →
      let lock : Option SceneLock := match start with
        | some time => if locked = true ∧ sceneTime s scene ≠ none then some ⟨scene, time⟩ else none
        | none => none
      let t := performAction r s (.play v.val clip gain loop locked)
      t.sound.voices = s.sound.voices.set v { Voice.clear with
        state := if s.sound.paused = true then .paused else .starting
        clip := clip, gain := gain, loop := loop, lock := lock } ∧
      (s.sound.paused = false → Asked t (.voice v.val) (.clipEntry clip) ∧ t.sound.amp = (match s.sound.amp with
        | .active => .active
        | .muted _ => .active
        | .standby => .waking (s.nowUs + s.cfg.wakeValue * s.cfg.wakeScale * 1000)
        | .waking d => .waking d)) ∧
      t.sound.pins = s.sound.pins ∧ t.path = s.path ∧ t.zone = s.zone ∧ t.governor = s.governor ∧ t.cues = s.cues) ∧
    (∀ voice fade, voice = 0 ∨ 3 < voice → performAction r s (.stop voice fade) = skipped) ∧
    (∀ (v : Fin 4) (fade : Nat), v ≠ 0 →
      let x := s.sound.voices[v]
      let t := performAction r s (.stop v.val fade)
      (x.state = .idle ∨ (x.state = .stopping ∧ 0 < fade) → t = s) ∧
      (x.state = .playing → 0 < fade → t = { s with sound := { s.sound with
        voices := s.sound.voices.set v { x with state := .stopping, fade := some ⟨fade, s.rideCount⟩ } } }) ∧
      (x.state = .starting ∨ x.state = .paused ∨ ((x.state = .playing ∨ x.state = .stopping) ∧ fade = 0) →
        t.sound.voices = s.sound.voices.set v Voice.clear ∧ t.sound.pins = s.sound.pins ∧ t.path = s.path ∧
        t.zone = s.zone ∧ t.governor = s.governor ∧ t.cues = s.cues)) ∧
    (∀ line mode first second, line = 0 ∨ 8 < line ∨ 3 < mode →
      performAction r s (.effect line mode first second) = skipped) ∧
    (∀ (i : Fin 8) (mode first second : Nat), mode ≤ 3 →
      performAction r s (.effect (i.val + 1) mode first second) = { s with cues := { s.cues with
        effects := s.cues.effects.set i (if mode = 0 then .off else if mode = 1 then .on
          else if first = 0 then .off
          else if mode = 2 then .pulse (s.nowUs + first * 1000)
          else if second = 0 then .on else .blink first second true (s.nowUs + first * 1000)) } }) ∧
    (∀ ms,
      let d := if 60000 < ms then 60000 else ms
      let show' (h : ShowHold) (v : Nat) : State := { s with
        cues := { s.cues with hold := h }
        governor := { s.governor with limits := { s.governor.limits with showHold := v } } }
      performAction r s (.hold ms) = match s.cues.hold with
        | .none => if s.path.speed = 0 then (if d = 0 then s else show' (.running (s.rideCount + d)) 0)
            else show' (.pending d) 0
        | .pending p => show' (.pending (if p < d then d else p)) s.governor.limits.showHold
        | .running x => show' (.running (if x < s.rideCount + d then s.rideCount + d else x))
            s.governor.limits.showHold) ∧
    (r.origin = .frame → performAction r s .send = skipped) ∧
    (r.origin ≠ .frame → performAction r s .send = offerFrame 0 (.cue ⟨r.cue, match start with
      | some time => some (scene, time)
      | none => none⟩) s) ∧
    (∀ clip, performAction r s (.pin clip) = pinClip clip s ∧ performAction r s (.unpin clip) = unpinClip clip s) ∧
    (∀ cue word, cue = 0 ∨ word = 0 → performAction r s (.arm cue word) = skipped) ∧
    (∀ cue word, cue ≠ 0 → word ≠ 0 →
      let mark := min 4294967295 (s.path.odometer + if word ≤ 4095 then word else Config.armDistanceBeyond word)
      let record : ArmedRecord := ⟨cue, mark, .arm, none, none⟩
      let asks (u : State) : State := (offerRead (.record cue mark) (.cueEntry cue) u).1
      let placed (l before after : List ArmedRecord) : Prop := l = before ++ after ∧
        (∀ x ∈ before, x.mark ≤ mark) ∧ ∀ x, after.head? = some x → mark < x.mark
      ((∃ x ∈ s.cues.armed, x.cue = cue ∧ x.mark = mark) → performAction r s (.arm cue word) = s) ∧
      ((∀ x ∈ s.cues.armed, ¬(x.cue = cue ∧ x.mark = mark)) → s.content.queue.length < 96 →
        (s.cues.armed.length < 12 → ∃ t before after, performAction r s (.arm cue word) = t ∧
          placed s.cues.armed before after ∧ Asked t (.record cue mark) (.cueEntry cue) ∧
          t = { s with content := (asks s).content, cues := { s.cues with armed := before ++ record :: after } }) ∧
        (12 ≤ s.cues.armed.length → ∀ front last, s.cues.armed = front ++ [last] →
          (last.mark ≤ mark → performAction r s (.arm cue word) = { s with startUp := lost s.startUp }) ∧
          (mark < last.mark → ∃ t before after, performAction r s (.arm cue word) = t ∧ placed front before after ∧
            Asked t (.record cue mark) (.cueEntry cue) ∧ t = { s with
              content := (asks (if last.entry = none then withdraw (.record last.cue last.mark) s else s)).content
              startUp := lost s.startUp
              cues := { s.cues with armed := before ++ record :: after } }))))

/-- The Content Reader's queue. A request offered in RUN after a PASS joins the read in flight or the queued request for
its target, unless its requester is named there already, and a better class then enters it anew; otherwise it is placed,
and served at once when the Content Reader is IDLE with nothing waiting; into a queue of 96 it is refused with one
content error, and at any other time without a count. The class of a request is the best among its requesters. A
withdrawn requester is taken off the read in flight and off every request that names it, however many, the others
staying in their order; one that is left with nobody is dropped, and one whose class is worse then is entered as of its
first remaining requester of that class. At the end of a read the oldest request of the best class is served, and within
class 3 the oldest of the first voice in turn, which is then the voice last served; a block takes 200 µs and an entry
20. The serial numbers that stand for the times of entry are the model's own (DEDUCED, notes/assumptions/32.md). So is
what becomes of a requester that is withdrawn while its read is being delivered (DEDUCED, notes/assumptions/26.md). That
one not yet delivered to, which offers the target being delivered, joins or places another request is the model's choice
(DESIGN CHOICE, notes/assumptions/38.md). -/
def Obligations.RequestsJoinWaitAndAreServed : Prop :=
  (∀ (v p n mark b : Nat) (who : Requester) (t : Target),
    classOf (.voice v) (.block b) = (if v = 0 then 1 else 3) ∧ classOf (.record n mark) (.cueEntry n) = 2 ∧
    classOf (.pin p) (.block b) = 5 ∧ classOf who (.clipEntry n) = 4 ∧ 1 ≤ classOf who t ∧ classOf who t ≤ 5) ∧
  (∀ q : ReadRequest, q.waiters ≠ [] → (∀ w ∈ q.waiters, q.cls ≤ classOf w.who q.target) ∧
    ∃ w ∈ q.waiters, q.cls = classOf w.who q.target) ∧
  (∀ (s : State) (who : Requester) (target : Target), s.startUp.run ≠ .run ∨ s.content.check ≠ .pass →
    offerRead who target s = (s, false)) ∧
  (∀ (s : State) (who : Requester) (target : Target), s.startUp.run = .run → s.content.check = .pass →
    let c := s.content
    let w : Waiter := ⟨who, c.serial⟩
    let taken (x : ContentState) : State × Bool := ({ s with content := { x with serial := c.serial + 1 } }, true)
    let inFlight := ∃ ws due, c.reader = .reading target ws due
    (∀ ws due, c.reader = .reading target ws due → offerRead who target s = taken { c with
      reader := .reading target (if ∃ x ∈ ws, x.who = who then ws else ws ++ [w]) due }) ∧
    (¬inFlight → ∀ xs q ys, c.queue = xs ++ q :: ys → q.target = target → (∀ x ∈ xs ++ ys, x.target ≠ target) →
      offerRead who target s = taken { c with queue := xs ++
        (if ∃ x ∈ q.waiters, x.who = who then q
          else { q with
            waiters := q.waiters ++ [w]
            entered := if classOf who target < q.cls then c.serial else q.entered }) :: ys }) ∧
    (¬inFlight → (∀ q ∈ c.queue, q.target ≠ target) →
      (c.queue.length < 96 → c.reader ≠ .idle →
        offerRead who target s = taken { c with queue := c.queue ++ [⟨target, [w], c.serial⟩] }) ∧
      (c.queue = [] → c.reader = .idle → c.lastVoice ≤ 3 → (∀ v, who = .voice v → v ≤ 3) →
        offerRead who target s = taken { c with
          reader := .reading target [w] (s.nowUs + match target with | .block _ => 200 | _ => 20)
          lastVoice := match who, target with
            | .voice v, .block _ => if v = 0 then c.lastVoice else v
            | _, _ => c.lastVoice }) ∧
      (96 ≤ c.queue.length → offerRead who target s = ({ s with startUp := { s.startUp with
        counters := { s.startUp.counters with contentErrors := min 65535 (s.startUp.counters.contentErrors + 1) } } },
        false)))) ∧
  (∀ (s : State) (who : Requester),
    let without (ws : List Waiter) := ws.filter fun w => w.who != who
    ∃ queue, withdraw who s = { s with content := { s.content with
      queue := queue
      reader := match s.content.reader with
        | .reading t ws due => .reading t (without ws) due
        | .delivering ws => .delivering (without ws)
        | .idle => .idle } } ∧
      ∃ left : ReadRequest → Option ReadRequest, queue = s.content.queue.filterMap left ∧ ∀ q ∈ s.content.queue,
        ((∀ w ∈ q.waiters, w.who ≠ who) → left q = some q) ∧
        ((∃ w ∈ q.waiters, w.who = who) → without q.waiters = [] → left q = none) ∧
        ((∃ w ∈ q.waiters, w.who = who) → without q.waiters ≠ [] → ∃ q', left q = some q' ∧ q'.target = q.target ∧
          q'.waiters = without q.waiters ∧
          (q'.cls ≤ q.cls → q'.entered = q.entered) ∧
          (q.cls < q'.cls → ∃ us w vs, without q.waiters = us ++ w :: vs ∧ classOf w.who q.target = q'.cls ∧
            (∀ u ∈ us, classOf u.who q.target ≠ q'.cls) ∧ q'.entered = w.serial))) ∧
  (∀ (dt : Nat) (data : BlockData) (s : State) (target : Target) (due : Nat) (xs ys : List ReadRequest) (q : ReadRequest),
    s.content.reader = .reading target [] due → due ≤ s.nowUs + dt → isUsable target data = true →
    s.content.queue = xs ++ q :: ys → (∀ x ∈ xs ++ ys, x.target ≠ q.target) → s.content.lastVoice ≤ 3 →
    let served (last : Nat) : State := { advance dt s with content := { s.content with
      reader := .reading q.target q.waiters (s.nowUs + dt + match q.target with | .block _ => 200 | _ => 20)
      queue := xs ++ ys
      lastVoice := last } }
    let turn (v : Nat) := (v + 5 - s.content.lastVoice) % 3
    (q.cls = 1 ∨ q.cls = 2 ∨ q.cls = 4 ∨ q.cls = 5 →
      (∀ x ∈ xs ++ ys, q.cls < x.cls ∨ (x.cls = q.cls ∧ q.entered < x.entered)) →
      exec (.readComplete dt data) s = .next (served s.content.lastVoice)) ∧
    (q.cls = 3 → (∀ x ∈ xs ++ ys, 3 ≤ x.cls) → ∀ v, 1 ≤ v → v ≤ 3 → names (.voice v) q.waiters = true →
      (∀ x ∈ xs ++ q :: ys, x.cls = 3 → ∀ u, 1 ≤ u → u ≤ 3 → names (.voice u) x.waiters = true → turn v ≤ turn u) →
      (∀ x ∈ xs ++ ys, x.cls = 3 → names (.voice v) x.waiters = true → q.entered < x.entered) →
      exec (.readComplete dt data) s = .next (served v)))

/-- The clip cache and the pin list, each operation by itself. A voice wants in STARTING its start block and the two
clip blocks after it, in PLAYING and STOPPING the two after its play-buffer block and, while it waits, its needed block.
A voice takes a wanted block that is neither resident nor on its way: it reserves the lowest unlocked way that is
INVALID, or else evicts the least recently used unlocked way that is VALID, which is then FILLING the block and most
recently used, and asks for it; a refused request leaves the slot INVALID, and with every unlocked way FILLING nothing
is reserved. A block that arrives is written into every slot of its set that is FILLING it, each then VALID and most
recently used, and a copy in a locked way leaves the unlocked copies INVALID. Invalidation empties the unlocked ways
alone. Outside RUN, and with content that failed its check, PIN and UNPIN are ignored and not counted. PIN takes the
lowest empty place, whose way is then locked with every slot INVALID, and asks for the clip's entry; it is skipped with
one content error above clip 511, for a clip that is pinned and with both places in use. UNPIN empties the place that
holds its clip and, with no voice wanting a block, leaves its VALID slots and makes its FILLING ones INVALID; above 511
it is skipped with one content error, and unpinning a clip that is not pinned does nothing. That no other voice upkeeps
for a slot that is refused is the model's choice (DESIGN CHOICE, notes/assumptions/41.md). -/
def Obligations.CachesAndPinsHoldTheirBlocks : Prop :=
  ∀ s : State,
    let locked (w : Fin 4) : Bool := (s.sound.pins[w.val]?.join).isSome
    let skipped : State := { s with startUp := { s.startUp with counters := { s.startUp.counters with
      contentErrors := min 65535 (s.startUp.counters.contentErrors + 1) } } }
    (∀ (v : Fin 4) (b : Nat),
      let x := s.sound.voices[v]
      (x.entry = none → b ∉ wants s v.val) ∧
      ∀ e, x.entry = some e →
        let after (j k : Nat) : Prop := (j + 1 < e.length ∧ k = j + 1) ∨ (e.length ≤ j + 1 ∧ x.loop = true ∧ k = 0)
        let ahead (j k : Nat) : Prop := after j k ∨ ∃ i, after j i ∧ after i k
        let start := (startPlace s x e).toNat / 256
        (b ∈ wants s v.val ↔ ∃ k, b = e.start + k ∧
          ((x.state = .starting ∧ (k = start ∨ ahead start k)) ∨
            ((x.state = .playing ∨ x.state = .stopping) ∧
              ((x.waiting = true ∧ k = x.position / 256) ∨ ∃ p, x.buffer = some p ∧ ahead p.block k))))) ∧
    (∀ (i : Fin 32) (b v : Nat), b % 32 = i.val → v ≤ 3 →
      let c := s.sound.cache[i]
      let set (w : Fin 4) (x : Slot) : SoundState := { s.sound with cache := s.sound.cache.set i {
        ways := c.ways.set w x
        order := c.order.filter (fun k => k != w.val) ++ [w.val] } }
      let invalid (w : Fin 4) : Prop := locked w = false ∧ c.ways[w] = .invalid
      let filling (w : Fin 4) : Prop := c.ways[w].isAnyFilling = true
      let chosen (w : Fin 4) : Prop :=
        (invalid w ∧ ∀ x : Fin 4, x < w → ¬invalid x) ∨
        ((∀ x, ¬invalid x) ∧ locked w = false ∧ ¬filling w ∧ ∃ before after, c.order = before ++ w.val :: after ∧
          ∀ x ∈ before, ∃ k : Fin 4, k.val = x ∧ (locked k = true ∨ filling k))
      let resident : Prop := ∃ (w : Fin 4) (data : BlockData), c.ways[w] = .valid b data
      let onItsWay : Prop := ∃ w : Fin 4, c.ways[w] = .filling b
      (resident → upkeepBlock v s b = s) ∧
      (¬resident → onItsWay → upkeepBlock v s b = (offerRead (.voice v) (.block b) s).1) ∧
      (¬resident → ¬onItsWay →
        (∀ w, chosen w → s.startUp.run = .run → s.content.check = .pass → s.content.queue.length < 96 →
          ∃ t, upkeepBlock v s b = t ∧ t = { s with content := t.content, sound := set w (.filling b) } ∧
            t = (offerRead (.voice v) (.block b) { s with sound := set w (.filling b) }).1) ∧
        (∀ w, chosen w → s.startUp.run ≠ .run ∨ s.content.check ≠ .pass →
          upkeepBlock v s b = { s with sound := set w .invalid }) ∧
        (∀ w, chosen w → s.startUp.run = .run → s.content.check = .pass → 96 ≤ s.content.queue.length →
          (∀ q ∈ s.content.queue, q.target ≠ .block b) → (∀ ws due, s.content.reader ≠ .reading (.block b) ws due) →
          upkeepBlock v s b = { skipped with sound := set w .invalid }) ∧
        ((∀ w, locked w = true ∨ filling w) → (∀ k ∈ c.order, k < 4) → upkeepBlock v s b = s))) ∧
    (∀ (i : Fin 32) (b : Nat) (data : BlockData), b % 32 = i.val →
      let c := s.sound.cache[i]
      let written (w : Fin 4) : Slot := if c.ways[w] = .filling b then .valid b data else c.ways[w]
      let pinned : Prop := ∃ w : Fin 4, locked w = true ∧ ((written w).holding b).isSome = true
      let d := writeBlock b data s
      d = { s with sound := { s.sound with cache := s.sound.cache.set i d.sound.cache[i] } } ∧
      (∀ w, d.sound.cache[i].ways[w] =
        if pinned ∧ locked w = false ∧ ((written w).holding b).isSome = true then .invalid else written w) ∧
      ∃ filled rest, d.sound.cache[i].order = rest ++ filled ∧
        (∀ k, k ∈ filled ↔ ∃ w : Fin 4, w.val = k ∧ c.ways[w] = .filling b) ∧
        rest = c.order.filter fun k => !filled.contains k) ∧
    (∃ t, invalidateCache s = { s with sound := { s.sound with cache := t } } ∧ ∀ i : Fin 32,
      t[i].order = s.sound.cache[i].order ∧
      ∀ w : Fin 4, t[i].ways[w] = if locked w = true then s.sound.cache[i].ways[w] else .invalid) ∧
    (∀ clip : Nat,
      let held (p : Fin 2) : Prop := ∃ x, s.sound.pins[p] = some x ∧ x.clip = clip
      let taken : Prop := s.startUp.run = .run ∧ s.content.check = .pass
      (s.startUp.run ≠ .run ∨ s.content.check = .bad → pinClip clip s = s ∧ unpinClip clip s = s) ∧
      (taken → 511 < clip → pinClip clip s = skipped ∧ unpinClip clip s = skipped) ∧
      (taken → clip ≤ 511 → (∃ p, held p) ∨ (∀ p : Fin 2, s.sound.pins[p] ≠ none) → pinClip clip s = skipped) ∧
      (taken → clip ≤ 511 → (∀ p, ¬held p) → unpinClip clip s = s) ∧
      (taken → clip ≤ 511 → (∀ p, ¬held p) → s.content.queue.length ≤ 80 →
        ∀ p : Fin 2, s.sound.pins[p] = none → (∀ x : Fin 2, x < p → s.sound.pins[x] ≠ none) →
        let t := pinClip clip s
        t.sound.pins = s.sound.pins.set p (some ⟨clip, none, .entry⟩) ∧
        (∀ i : Fin 32, t.sound.cache[i].ways[p.val]? = some .invalid) ∧
        ((∃ q ∈ t.content.queue, q.target = .clipEntry clip ∧ names (.pin (p.val + 1)) q.waiters = true) ∨
          ∃ ws due, t.content.reader = .reading (.clipEntry clip) ws due ∧ names (.pin (p.val + 1)) ws = true) ∧
        t.sound.voices = s.sound.voices ∧ t.path = s.path ∧ t.zone = s.zone ∧ t.governor = s.governor ∧
        t.cues = s.cues) ∧
      (taken → clip ≤ 511 → ∀ p, held p → (∀ x : Fin 2, x < p → ¬held x) →
        (unpinClip clip s).sound.pins = s.sound.pins.set p none ∧
        ((∀ v : Fin 4, wants s v.val = []) → ∃ cache, unpinClip clip s = { withdraw (.pin (p.val + 1)) s with
            sound := { s.sound with pins := s.sound.pins.set p none, cache := cache } } ∧
          ∀ i : Fin 32, cache[i].order = s.sound.cache[i].order ∧ ∀ w : Fin 4, cache[i].ways[w] =
            if w.val = p.val ∧ s.sound.cache[i].ways[w].isAnyFilling = true then .invalid
            else s.sound.cache[i].ways[w])))

/-- READ_COMPLETE of a block and of a clip entry, one requester waiting and nothing else queued. A block for a voice in
STARTING whose start block it is starts the voice, with the amplifier ACTIVE; one for a voice that waits ends the wait;
every voice whose start or needed block has arrived proceeds in the same event, whichever requester it was delivered to
and whatever the other voices do; a block of a pin becomes VALID in its way, and the place is HELD when it was the last.
An entry for a voice in STARTING is kept, with the loop flag joined for voices 1 to 3, and the start block worked out;
with the amplifier ACTIVE, its start time reached and that block resident it is PLAYING at once, and past the end of a
clip without loop it is IDLE (Safety.lean, StartTested). The voice delivered to, of an entry or a block, upkeeps its
wants (Upkept). An unusable one counts one content error and makes the voice IDLE. An entry for a pin place reserves and
asks for the clip's first 32 blocks at most, one in each set, and the place is FILLING; an unusable one counts one
content error and empties the place with every slot of its way INVALID. A voice that becomes IDLE has its record cleared
(DEDUCED, notes/assumptions/19.md). That the delivery of an entry tests no other voice in STARTING
(notes/assumptions/42.md), and that a position which a looping voice holds is taken modulo the sample count when the
entry arrives (notes/assumptions/35.md), are DESIGN CHOICES. -/
def Obligations.ReadsReachVoicesAndPins : Prop :=
  ∀ (dt due serial : Nat) (data : BlockData) (s : State), s.startUp.run = .run → s.content.check = .pass →
    s.content.queue = [] → due ≤ s.nowUs + dt →
    let read (target : Target) (who : Requester) : Prop :=
      s.content.reader = .reading target [⟨who, serial⟩] due
    let after (t : State) : Prop := exec (.readComplete dt data) s = .next t ∧ t.path = s.path ∧ t.zone = s.zone ∧
      t.governor = s.governor ∧ t.cues = s.cues ∧ t.restraints = s.restraints
    let errors (t : State) : Prop :=
      t.startUp = { s.startUp with counters := { s.startUp.counters with
        contentErrors := min 65535 (s.startUp.counters.contentErrors + 1) } }
    let arrives (b : Nat) : Prop := ∃ (i : Fin 32) (w : Fin 4), i.val = b % 32 ∧ s.sound.cache[i].ways[w] = .filling b ∧
      ∀ (k : Fin 4) (d : BlockData), s.sound.cache[i].ways[k] ≠ .valid b d
    (∀ (v : Fin 4) (b : Nat) (e : ClipEntry),
      let x := s.sound.voices[v]
      read (.block b) (.voice v.val) → arrives b → x.entry = some e → b = e.start + x.position / 256 →
      (∀ u : Fin 4, u ≠ v → s.sound.voices[u].waiting = false ∧
        (s.sound.voices[u].state = .idle ∨ s.sound.voices[u].state = .paused)) →
      (x.state = .starting → x.lock = none → (x.loop = true ∨ x.position < e.samples) → s.sound.amp = .active →
        ∃ t, after t ∧ t.sound.voices = s.sound.voices.set v { x with
          state := .playing, buffer := some ⟨x.position / 256, data⟩, waiting := false, startBlock := none } ∧
          t.sound.amp = .active ∧ Upkept s t v) ∧
      (x.state = .playing ∨ x.state = .stopping → x.waiting = true →
        ∃ t, after t ∧ t.sound.voices = s.sound.voices.set v { x with
          buffer := some ⟨x.position / 256, data⟩, waiting := false } ∧ t.sound.amp = s.sound.amp ∧ Upkept s t v)) ∧
    (∀ (v : Fin 4) (b : Nat), read (.block b) (.voice v.val) →
      (∀ u : Fin 4, u ≠ v → s.sound.voices[u].waiting = false ∧
        (s.sound.voices[u].state = .idle ∨ s.sound.voices[u].state = .paused)) → ∃ t, after t ∧ Upkept s t v) ∧
    (∀ (who : Requester) (b : Nat), read (.block b) who →
      ((∃ v : Fin 4, who = .voice v.val) ∨ ∃ p : Fin 2, who = .pin (p.val + 1)) → arrives b → ∃ t, after t ∧
      ∀ (v : Fin 4) (e : ClipEntry),
        let x := s.sound.voices[v]
        let p := startPlace (advance dt s) x e
        x.entry = some e →
        (x.state = .starting → s.sound.amp = .active → 0 ≤ p → (x.loop = true ∨ p < e.samples) →
          b = e.start + p.toNat / 256 → t.sound.voices[v] = { x with
            state := .playing, position := p.toNat, buffer := some ⟨p.toNat / 256, data⟩, waiting := false,
            startBlock := none }) ∧
        (x.state = .playing ∨ x.state = .stopping → x.waiting = true → b = e.start + x.position / 256 →
          t.sound.voices[v] = { x with buffer := some ⟨x.position / 256, data⟩, waiting := false })) ∧
    (∀ (v : Fin 4) (clip : Nat),
      let x := s.sound.voices[v]
      read (.clipEntry clip) (.voice v.val) → x.state = .starting → x.entry = none →
      (clipEntryOf data = none → ∃ t, after t ∧ errors t ∧ t.sound.voices = s.sound.voices.set v Voice.clear) ∧
      (∀ e, clipEntryOf data = some e →
        let loop := x.loop || (e.loop && v.val != 0)
        let y : Voice := { x with
          entry := some e
          loop := loop
          position := if loop = true then x.position % e.samples else x.position }
        let ended := loop = false ∧ (e.samples : Int) ≤ startPlace (advance dt s) y e
        ∃ t, after t ∧ StartTested (advance dt s) (s.sound.amp = .active) y e t.sound.voices[v] ∧
          (t.sound.voices[v].state = .starting →
            t.sound.voices[v].startBlock = some ((startPlace (advance dt s) y e).toNat / 256)) ∧
          (∀ u : Fin 4, u ≠ v → t.sound.voices[u] = s.sound.voices[u]) ∧ Upkept s t v ∧
          (¬ended → t.sound.amp = s.sound.amp))) ∧
    (∀ (p : Fin 2) (pin : Pin), s.sound.pins[p] = some pin →
      (∀ v : Fin 4, s.sound.voices[v].state = .idle ∧ s.sound.voices[v].waiting = false) →
      (∀ (b : Nat) (i : Fin 32), read (.block b) (.pin (p.val + 1)) → i.val = b % 32 →
        s.sound.cache[i].ways[p.val]? = some (.filling b) → pin.phase = .filling →
        ∃ t phase, after t ∧ t.startUp = s.startUp ∧ t.content = { s.content with reader := .idle } ∧
          t.sound.pins[p] = some { pin with phase := phase } ∧
          t.sound.cache[i].ways[p.val]? = some (.valid b data) ∧
          (∀ k : Fin 32, k ≠ i → t.sound.cache[k] = s.sound.cache[k]) ∧
          ((∃ (k : Fin 32) (x : Nat), k ≠ i ∧ s.sound.cache[k].ways[p.val]? = some (.filling x)) → phase = .filling) ∧
          ((∀ (k : Fin 32) (x : Nat), k ≠ i → s.sound.cache[k].ways[p.val]? ≠ some (.filling x)) → phase = .held)) ∧
      (∀ clip : Nat, read (.clipEntry clip) (.pin (p.val + 1)) → pin.phase = .entry →
        (clipEntryOf data = none → ∃ t, after t ∧ errors t ∧ t.sound.pins = s.sound.pins.set p none ∧
          t.content = { s.content with reader := .idle } ∧
          ∀ i : Fin 32, t.sound.cache[i].ways[p.val]? = some .invalid) ∧
        (∀ e, clipEntryOf data = some e → ∃ t, after t ∧ t.startUp = s.startUp ∧
          t.sound.pins = s.sound.pins.set p (some ⟨pin.clip, some e, .filling⟩) ∧
          (∀ b, e.start ≤ b → b < e.start + min 32 e.length →
            (∀ i : Fin 32, i.val = b % 32 → t.sound.cache[i].ways[p.val]? = some (.filling b)) ∧
            ((∃ q ∈ t.content.queue, q.target = .block b) ∨
              ∃ ws time, t.content.reader = .reading (.block b) ws time)) ∧
          ∀ i : Fin 32, (∀ b, e.start ≤ b → b < e.start + min 32 e.length → b % 32 ≠ i.val) →
            t.sound.cache[i].ways[p.val]? = s.sound.cache[i].ways[p.val]?)))

/-- READ_COMPLETE of a cue entry: a read no one waits for any more is discarded; an unusable cue entry counts a content
error and its LOADING record leaves the list; a usable one makes the record ARMED, and unless the Cue Engine is
suspended there is an evaluation with it as the record just ARMED, before the next read starts. SCENE_TIME_REACHED is
one evaluation, whose firing records perform their actions, when some record of the scene has reached its time: the
missed ones are counted, and of the ARMED records only those that neither fire nor are missed stay. While suspended, or
with no such record, it does nothing. What a judgement finds is RecordsAreJudgedByTheirTriggers'. That missed records
are counted before any fires is DEDUCED (notes/assumptions/18.md), and so is the order of judging, delivering and going
on at the end of a read (notes/assumptions/26.md). A command whose event is not due changes nothing but the time (DESIGN
CHOICE, notes/assumptions/5.md; DEDUCED, notes/assumptions/13.md). -/
def Obligations.ReadsAndSceneTimesReachTheRecords : Prop :=
  ∀ (dt : Nat) (s : State),
    let now := s.nowUs + dt
    let u := advance dt s
    let suspended := s.cues.restraintStop = true ∨ s.cues.safetyStop = true
    (∀ data target waiters done, s.content.reader = .reading target waiters done →
      (now < done → exec (.readComplete dt data) s = .next u) ∧
      (done ≤ now → waiters = [] → isUsable target data = true → s.content.queue = [] →
        exec (.readComplete dt data) s = .next { u with content := { s.content with reader := .idle } }) ∧
      (∀ cue mark serial xs r ys, done ≤ now → target = .cueEntry cue → waiters = [⟨.record cue mark, serial⟩] →
        s.cues.armed = xs ++ r :: ys → r.cue = cue → r.mark = mark → r.entry = none →
        (∀ x ∈ xs ++ ys, ¬(x.cue = cue ∧ x.mark = mark)) → s.content.queue = [] →
        (cueEntryOf data = none → exec (.readComplete dt data) s = .next { u with
          content := { s.content with reader := .idle }
          cues := { s.cues with armed := xs ++ ys }
          startUp := { s.startUp with counters := { s.startUp.counters with
            contentErrors := min 65535 (s.startUp.counters.contentErrors + 1) } } }) ∧
        (∀ e, cueEntryOf data = some e → suspended → exec (.readComplete dt data) s = .next { u with
          content := { s.content with reader := .idle }
          cues := { s.cues with armed := xs ++ { r with entry := some e } :: ys } }) ∧
        (∀ e, cueEntryOf data = some e → ¬suspended →
          let judged := evaluate (some (cue, mark)) { u with
            content := { s.content with reader := .delivering [] }
            cues := { s.cues with armed := xs ++ { r with entry := some e } :: ys } }
          exec (.readComplete dt data) s =
            .next (startRead { judged with content := { judged.content with reader := .idle } })))) ∧
    (∀ scene : Nat,
      let reached := ∃ r ∈ s.cues.armed, ∃ e ms p, recordScene s r = scene ∧ r.entry = some e ∧
        e.secondary = .sceneTime ms ∧ sceneTime u scene = some p ∧ ms ≤ p
      (¬reached ∨ suspended ∨ s.content.check = .bad ∨ s.startUp.run ≠ .run →
        exec (.sceneTimeReached dt scene) s = .next u) ∧
      (reached → ¬suspended → s.content.check ≠ .bad → s.startUp.run = .run →
        ∃ t, exec (.sceneTimeReached dt scene) s = .next t ∧ t = evaluate none u ∧
          t.startUp.counters.missedCues = min 65535 (s.startUp.counters.missedCues +
            (s.cues.armed.filter fun r => judgeRecord u r == .missed).length) ∧
          (∀ r ∈ t.cues.armed, r.entry ≠ none → r ∈ s.cues.armed ∧ judgeRecord u r = .stays) ∧
          t.startUp.faults = s.startUp.faults ∧ t.path = s.path ∧ t.zone = s.zone ∧ t.scanner = s.scanner ∧
          t.steering = s.steering ∧ t.restraints = s.restraints ∧ t.governor.causes = s.governor.causes))
end

