-- ==== Sys2Proof/Laws/State.lean ====
section
/-! SUPPORT. What each named update of the state leaves in each field, one lemma a field, all true by rfl: later proofs
rewrite with these and never unfold an update. -/

namespace Sys2Proof.Machine

/-! ### withStartUp -/

@[simp] theorem withStartUp_pending (x : StartUpState) (s : State) : (withStartUp x s).pending = s.pending := rfl
@[simp] theorem withStartUp_nowUs (x : StartUpState) (s : State) : (withStartUp x s).nowUs = s.nowUs := rfl
@[simp] theorem withStartUp_epochUs (x : StartUpState) (s : State) : (withStartUp x s).epochUs = s.epochUs := rfl
@[simp] theorem withStartUp_startUp (x : StartUpState) (s : State) : (withStartUp x s).startUp = x := rfl
@[simp] theorem withStartUp_path (x : StartUpState) (s : State) : (withStartUp x s).path = s.path := rfl
@[simp] theorem withStartUp_channel (x : StartUpState) (s : State) : (withStartUp x s).channel = s.channel := rfl
@[simp] theorem withStartUp_zone (x : StartUpState) (s : State) : (withStartUp x s).zone = s.zone := rfl
@[simp] theorem withStartUp_governor (x : StartUpState) (s : State) : (withStartUp x s).governor = s.governor := rfl
@[simp] theorem withStartUp_scanner (x : StartUpState) (s : State) : (withStartUp x s).scanner = s.scanner := rfl
@[simp] theorem withStartUp_steering (x : StartUpState) (s : State) : (withStartUp x s).steering = s.steering := rfl
@[simp] theorem withStartUp_restraints (x : StartUpState) (s : State) : (withStartUp x s).restraints = s.restraints := rfl
@[simp] theorem withStartUp_content (x : StartUpState) (s : State) : (withStartUp x s).content = s.content := rfl
@[simp] theorem withStartUp_cues (x : StartUpState) (s : State) : (withStartUp x s).cues = s.cues := rfl
@[simp] theorem withStartUp_sound (x : StartUpState) (s : State) : (withStartUp x s).sound = s.sound := rfl

/-! ### withPath -/

@[simp] theorem withPath_pending (x : PathState) (s : State) : (withPath x s).pending = s.pending := rfl
@[simp] theorem withPath_nowUs (x : PathState) (s : State) : (withPath x s).nowUs = s.nowUs := rfl
@[simp] theorem withPath_epochUs (x : PathState) (s : State) : (withPath x s).epochUs = s.epochUs := rfl
@[simp] theorem withPath_startUp (x : PathState) (s : State) : (withPath x s).startUp = s.startUp := rfl
@[simp] theorem withPath_path (x : PathState) (s : State) : (withPath x s).path = x := rfl
@[simp] theorem withPath_channel (x : PathState) (s : State) : (withPath x s).channel = s.channel := rfl
@[simp] theorem withPath_zone (x : PathState) (s : State) : (withPath x s).zone = s.zone := rfl
@[simp] theorem withPath_governor (x : PathState) (s : State) : (withPath x s).governor = s.governor := rfl
@[simp] theorem withPath_scanner (x : PathState) (s : State) : (withPath x s).scanner = s.scanner := rfl
@[simp] theorem withPath_steering (x : PathState) (s : State) : (withPath x s).steering = s.steering := rfl
@[simp] theorem withPath_restraints (x : PathState) (s : State) : (withPath x s).restraints = s.restraints := rfl
@[simp] theorem withPath_content (x : PathState) (s : State) : (withPath x s).content = s.content := rfl
@[simp] theorem withPath_cues (x : PathState) (s : State) : (withPath x s).cues = s.cues := rfl
@[simp] theorem withPath_sound (x : PathState) (s : State) : (withPath x s).sound = s.sound := rfl

/-! ### withChannel -/

@[simp] theorem withChannel_pending (x : ChannelState) (s : State) : (withChannel x s).pending = s.pending := rfl
@[simp] theorem withChannel_nowUs (x : ChannelState) (s : State) : (withChannel x s).nowUs = s.nowUs := rfl
@[simp] theorem withChannel_epochUs (x : ChannelState) (s : State) : (withChannel x s).epochUs = s.epochUs := rfl
@[simp] theorem withChannel_startUp (x : ChannelState) (s : State) : (withChannel x s).startUp = s.startUp := rfl
@[simp] theorem withChannel_path (x : ChannelState) (s : State) : (withChannel x s).path = s.path := rfl
@[simp] theorem withChannel_channel (x : ChannelState) (s : State) : (withChannel x s).channel = x := rfl
@[simp] theorem withChannel_zone (x : ChannelState) (s : State) : (withChannel x s).zone = s.zone := rfl
@[simp] theorem withChannel_governor (x : ChannelState) (s : State) : (withChannel x s).governor = s.governor := rfl
@[simp] theorem withChannel_scanner (x : ChannelState) (s : State) : (withChannel x s).scanner = s.scanner := rfl
@[simp] theorem withChannel_steering (x : ChannelState) (s : State) : (withChannel x s).steering = s.steering := rfl
@[simp] theorem withChannel_restraints (x : ChannelState) (s : State) : (withChannel x s).restraints = s.restraints := rfl
@[simp] theorem withChannel_content (x : ChannelState) (s : State) : (withChannel x s).content = s.content := rfl
@[simp] theorem withChannel_cues (x : ChannelState) (s : State) : (withChannel x s).cues = s.cues := rfl
@[simp] theorem withChannel_sound (x : ChannelState) (s : State) : (withChannel x s).sound = s.sound := rfl

/-! ### withZone -/

@[simp] theorem withZone_pending (x : ZoneState) (s : State) : (withZone x s).pending = s.pending := rfl
@[simp] theorem withZone_nowUs (x : ZoneState) (s : State) : (withZone x s).nowUs = s.nowUs := rfl
@[simp] theorem withZone_epochUs (x : ZoneState) (s : State) : (withZone x s).epochUs = s.epochUs := rfl
@[simp] theorem withZone_startUp (x : ZoneState) (s : State) : (withZone x s).startUp = s.startUp := rfl
@[simp] theorem withZone_path (x : ZoneState) (s : State) : (withZone x s).path = s.path := rfl
@[simp] theorem withZone_channel (x : ZoneState) (s : State) : (withZone x s).channel = s.channel := rfl
@[simp] theorem withZone_zone (x : ZoneState) (s : State) : (withZone x s).zone = x := rfl
@[simp] theorem withZone_governor (x : ZoneState) (s : State) : (withZone x s).governor = s.governor := rfl
@[simp] theorem withZone_scanner (x : ZoneState) (s : State) : (withZone x s).scanner = s.scanner := rfl
@[simp] theorem withZone_steering (x : ZoneState) (s : State) : (withZone x s).steering = s.steering := rfl
@[simp] theorem withZone_restraints (x : ZoneState) (s : State) : (withZone x s).restraints = s.restraints := rfl
@[simp] theorem withZone_content (x : ZoneState) (s : State) : (withZone x s).content = s.content := rfl
@[simp] theorem withZone_cues (x : ZoneState) (s : State) : (withZone x s).cues = s.cues := rfl
@[simp] theorem withZone_sound (x : ZoneState) (s : State) : (withZone x s).sound = s.sound := rfl

/-! ### withGovernor -/

@[simp] theorem withGovernor_pending (x : GovernorState) (s : State) : (withGovernor x s).pending = s.pending := rfl
@[simp] theorem withGovernor_nowUs (x : GovernorState) (s : State) : (withGovernor x s).nowUs = s.nowUs := rfl
@[simp] theorem withGovernor_epochUs (x : GovernorState) (s : State) : (withGovernor x s).epochUs = s.epochUs := rfl
@[simp] theorem withGovernor_startUp (x : GovernorState) (s : State) : (withGovernor x s).startUp = s.startUp := rfl
@[simp] theorem withGovernor_path (x : GovernorState) (s : State) : (withGovernor x s).path = s.path := rfl
@[simp] theorem withGovernor_channel (x : GovernorState) (s : State) : (withGovernor x s).channel = s.channel := rfl
@[simp] theorem withGovernor_zone (x : GovernorState) (s : State) : (withGovernor x s).zone = s.zone := rfl
@[simp] theorem withGovernor_governor (x : GovernorState) (s : State) : (withGovernor x s).governor = x := rfl
@[simp] theorem withGovernor_scanner (x : GovernorState) (s : State) : (withGovernor x s).scanner = s.scanner := rfl
@[simp] theorem withGovernor_steering (x : GovernorState) (s : State) : (withGovernor x s).steering = s.steering := rfl
@[simp] theorem withGovernor_restraints (x : GovernorState) (s : State) : (withGovernor x s).restraints = s.restraints := rfl
@[simp] theorem withGovernor_content (x : GovernorState) (s : State) : (withGovernor x s).content = s.content := rfl
@[simp] theorem withGovernor_cues (x : GovernorState) (s : State) : (withGovernor x s).cues = s.cues := rfl
@[simp] theorem withGovernor_sound (x : GovernorState) (s : State) : (withGovernor x s).sound = s.sound := rfl

/-! ### withScanner -/

@[simp] theorem withScanner_pending (x : ScannerState) (s : State) : (withScanner x s).pending = s.pending := rfl
@[simp] theorem withScanner_nowUs (x : ScannerState) (s : State) : (withScanner x s).nowUs = s.nowUs := rfl
@[simp] theorem withScanner_epochUs (x : ScannerState) (s : State) : (withScanner x s).epochUs = s.epochUs := rfl
@[simp] theorem withScanner_startUp (x : ScannerState) (s : State) : (withScanner x s).startUp = s.startUp := rfl
@[simp] theorem withScanner_path (x : ScannerState) (s : State) : (withScanner x s).path = s.path := rfl
@[simp] theorem withScanner_channel (x : ScannerState) (s : State) : (withScanner x s).channel = s.channel := rfl
@[simp] theorem withScanner_zone (x : ScannerState) (s : State) : (withScanner x s).zone = s.zone := rfl
@[simp] theorem withScanner_governor (x : ScannerState) (s : State) : (withScanner x s).governor = s.governor := rfl
@[simp] theorem withScanner_scanner (x : ScannerState) (s : State) : (withScanner x s).scanner = x := rfl
@[simp] theorem withScanner_steering (x : ScannerState) (s : State) : (withScanner x s).steering = s.steering := rfl
@[simp] theorem withScanner_restraints (x : ScannerState) (s : State) : (withScanner x s).restraints = s.restraints := rfl
@[simp] theorem withScanner_content (x : ScannerState) (s : State) : (withScanner x s).content = s.content := rfl
@[simp] theorem withScanner_cues (x : ScannerState) (s : State) : (withScanner x s).cues = s.cues := rfl
@[simp] theorem withScanner_sound (x : ScannerState) (s : State) : (withScanner x s).sound = s.sound := rfl

/-! ### withSteering -/

@[simp] theorem withSteering_pending (x : SteeringState) (s : State) : (withSteering x s).pending = s.pending := rfl
@[simp] theorem withSteering_nowUs (x : SteeringState) (s : State) : (withSteering x s).nowUs = s.nowUs := rfl
@[simp] theorem withSteering_epochUs (x : SteeringState) (s : State) : (withSteering x s).epochUs = s.epochUs := rfl
@[simp] theorem withSteering_startUp (x : SteeringState) (s : State) : (withSteering x s).startUp = s.startUp := rfl
@[simp] theorem withSteering_path (x : SteeringState) (s : State) : (withSteering x s).path = s.path := rfl
@[simp] theorem withSteering_channel (x : SteeringState) (s : State) : (withSteering x s).channel = s.channel := rfl
@[simp] theorem withSteering_zone (x : SteeringState) (s : State) : (withSteering x s).zone = s.zone := rfl
@[simp] theorem withSteering_governor (x : SteeringState) (s : State) : (withSteering x s).governor = s.governor := rfl
@[simp] theorem withSteering_scanner (x : SteeringState) (s : State) : (withSteering x s).scanner = s.scanner := rfl
@[simp] theorem withSteering_steering (x : SteeringState) (s : State) : (withSteering x s).steering = x := rfl
@[simp] theorem withSteering_restraints (x : SteeringState) (s : State) : (withSteering x s).restraints = s.restraints := rfl
@[simp] theorem withSteering_content (x : SteeringState) (s : State) : (withSteering x s).content = s.content := rfl
@[simp] theorem withSteering_cues (x : SteeringState) (s : State) : (withSteering x s).cues = s.cues := rfl
@[simp] theorem withSteering_sound (x : SteeringState) (s : State) : (withSteering x s).sound = s.sound := rfl

/-! ### withRestraints -/

@[simp] theorem withRestraints_pending (x : RestraintState) (s : State) : (withRestraints x s).pending = s.pending := rfl
@[simp] theorem withRestraints_nowUs (x : RestraintState) (s : State) : (withRestraints x s).nowUs = s.nowUs := rfl
@[simp] theorem withRestraints_epochUs (x : RestraintState) (s : State) : (withRestraints x s).epochUs = s.epochUs := rfl
@[simp] theorem withRestraints_startUp (x : RestraintState) (s : State) : (withRestraints x s).startUp = s.startUp := rfl
@[simp] theorem withRestraints_path (x : RestraintState) (s : State) : (withRestraints x s).path = s.path := rfl
@[simp] theorem withRestraints_channel (x : RestraintState) (s : State) : (withRestraints x s).channel = s.channel := rfl
@[simp] theorem withRestraints_zone (x : RestraintState) (s : State) : (withRestraints x s).zone = s.zone := rfl
@[simp] theorem withRestraints_governor (x : RestraintState) (s : State) : (withRestraints x s).governor = s.governor := rfl
@[simp] theorem withRestraints_scanner (x : RestraintState) (s : State) : (withRestraints x s).scanner = s.scanner := rfl
@[simp] theorem withRestraints_steering (x : RestraintState) (s : State) : (withRestraints x s).steering = s.steering := rfl
@[simp] theorem withRestraints_restraints (x : RestraintState) (s : State) : (withRestraints x s).restraints = x := rfl
@[simp] theorem withRestraints_content (x : RestraintState) (s : State) : (withRestraints x s).content = s.content := rfl
@[simp] theorem withRestraints_cues (x : RestraintState) (s : State) : (withRestraints x s).cues = s.cues := rfl
@[simp] theorem withRestraints_sound (x : RestraintState) (s : State) : (withRestraints x s).sound = s.sound := rfl

/-! ### withContent -/

@[simp] theorem withContent_pending (x : ContentState) (s : State) : (withContent x s).pending = s.pending := rfl
@[simp] theorem withContent_nowUs (x : ContentState) (s : State) : (withContent x s).nowUs = s.nowUs := rfl
@[simp] theorem withContent_epochUs (x : ContentState) (s : State) : (withContent x s).epochUs = s.epochUs := rfl
@[simp] theorem withContent_startUp (x : ContentState) (s : State) : (withContent x s).startUp = s.startUp := rfl
@[simp] theorem withContent_path (x : ContentState) (s : State) : (withContent x s).path = s.path := rfl
@[simp] theorem withContent_channel (x : ContentState) (s : State) : (withContent x s).channel = s.channel := rfl
@[simp] theorem withContent_zone (x : ContentState) (s : State) : (withContent x s).zone = s.zone := rfl
@[simp] theorem withContent_governor (x : ContentState) (s : State) : (withContent x s).governor = s.governor := rfl
@[simp] theorem withContent_scanner (x : ContentState) (s : State) : (withContent x s).scanner = s.scanner := rfl
@[simp] theorem withContent_steering (x : ContentState) (s : State) : (withContent x s).steering = s.steering := rfl
@[simp] theorem withContent_restraints (x : ContentState) (s : State) : (withContent x s).restraints = s.restraints := rfl
@[simp] theorem withContent_content (x : ContentState) (s : State) : (withContent x s).content = x := rfl
@[simp] theorem withContent_cues (x : ContentState) (s : State) : (withContent x s).cues = s.cues := rfl
@[simp] theorem withContent_sound (x : ContentState) (s : State) : (withContent x s).sound = s.sound := rfl

/-! ### withCues -/

@[simp] theorem withCues_pending (x : CueState) (s : State) : (withCues x s).pending = s.pending := rfl
@[simp] theorem withCues_nowUs (x : CueState) (s : State) : (withCues x s).nowUs = s.nowUs := rfl
@[simp] theorem withCues_epochUs (x : CueState) (s : State) : (withCues x s).epochUs = s.epochUs := rfl
@[simp] theorem withCues_startUp (x : CueState) (s : State) : (withCues x s).startUp = s.startUp := rfl
@[simp] theorem withCues_path (x : CueState) (s : State) : (withCues x s).path = s.path := rfl
@[simp] theorem withCues_channel (x : CueState) (s : State) : (withCues x s).channel = s.channel := rfl
@[simp] theorem withCues_zone (x : CueState) (s : State) : (withCues x s).zone = s.zone := rfl
@[simp] theorem withCues_governor (x : CueState) (s : State) : (withCues x s).governor = s.governor := rfl
@[simp] theorem withCues_scanner (x : CueState) (s : State) : (withCues x s).scanner = s.scanner := rfl
@[simp] theorem withCues_steering (x : CueState) (s : State) : (withCues x s).steering = s.steering := rfl
@[simp] theorem withCues_restraints (x : CueState) (s : State) : (withCues x s).restraints = s.restraints := rfl
@[simp] theorem withCues_content (x : CueState) (s : State) : (withCues x s).content = s.content := rfl
@[simp] theorem withCues_cues (x : CueState) (s : State) : (withCues x s).cues = x := rfl
@[simp] theorem withCues_sound (x : CueState) (s : State) : (withCues x s).sound = s.sound := rfl

/-! ### withSound -/

@[simp] theorem withSound_pending (x : SoundState) (s : State) : (withSound x s).pending = s.pending := rfl
@[simp] theorem withSound_nowUs (x : SoundState) (s : State) : (withSound x s).nowUs = s.nowUs := rfl
@[simp] theorem withSound_epochUs (x : SoundState) (s : State) : (withSound x s).epochUs = s.epochUs := rfl
@[simp] theorem withSound_startUp (x : SoundState) (s : State) : (withSound x s).startUp = s.startUp := rfl
@[simp] theorem withSound_path (x : SoundState) (s : State) : (withSound x s).path = s.path := rfl
@[simp] theorem withSound_channel (x : SoundState) (s : State) : (withSound x s).channel = s.channel := rfl
@[simp] theorem withSound_zone (x : SoundState) (s : State) : (withSound x s).zone = s.zone := rfl
@[simp] theorem withSound_governor (x : SoundState) (s : State) : (withSound x s).governor = s.governor := rfl
@[simp] theorem withSound_scanner (x : SoundState) (s : State) : (withSound x s).scanner = s.scanner := rfl
@[simp] theorem withSound_steering (x : SoundState) (s : State) : (withSound x s).steering = s.steering := rfl
@[simp] theorem withSound_restraints (x : SoundState) (s : State) : (withSound x s).restraints = s.restraints := rfl
@[simp] theorem withSound_content (x : SoundState) (s : State) : (withSound x s).content = s.content := rfl
@[simp] theorem withSound_cues (x : SoundState) (s : State) : (withSound x s).cues = s.cues := rfl
@[simp] theorem withSound_sound (x : SoundState) (s : State) : (withSound x s).sound = x := rfl

/-! ### setLimit -/

@[simp] theorem setLimit_pending (l : LimitSource) (v : Nat) (s : State) : (setLimit l v s).pending = s.pending := rfl
@[simp] theorem setLimit_nowUs (l : LimitSource) (v : Nat) (s : State) : (setLimit l v s).nowUs = s.nowUs := rfl
@[simp] theorem setLimit_epochUs (l : LimitSource) (v : Nat) (s : State) : (setLimit l v s).epochUs = s.epochUs := rfl
@[simp] theorem setLimit_startUp (l : LimitSource) (v : Nat) (s : State) : (setLimit l v s).startUp = s.startUp := rfl
@[simp] theorem setLimit_path (l : LimitSource) (v : Nat) (s : State) : (setLimit l v s).path = s.path := rfl
@[simp] theorem setLimit_channel (l : LimitSource) (v : Nat) (s : State) : (setLimit l v s).channel = s.channel := rfl
@[simp] theorem setLimit_zone (l : LimitSource) (v : Nat) (s : State) : (setLimit l v s).zone = s.zone := rfl
@[simp] theorem setLimit_scanner (l : LimitSource) (v : Nat) (s : State) : (setLimit l v s).scanner = s.scanner := rfl
@[simp] theorem setLimit_steering (l : LimitSource) (v : Nat) (s : State) : (setLimit l v s).steering = s.steering := rfl
@[simp] theorem setLimit_restraints (l : LimitSource) (v : Nat) (s : State) : (setLimit l v s).restraints = s.restraints := rfl
@[simp] theorem setLimit_content (l : LimitSource) (v : Nat) (s : State) : (setLimit l v s).content = s.content := rfl
@[simp] theorem setLimit_cues (l : LimitSource) (v : Nat) (s : State) : (setLimit l v s).cues = s.cues := rfl
@[simp] theorem setLimit_sound (l : LimitSource) (v : Nat) (s : State) : (setLimit l v s).sound = s.sound := rfl
@[simp] theorem setLimit_governor_target (l : LimitSource) (v : Nat) (s : State) :
    (setLimit l v s).governor.target = s.governor.target := rfl
@[simp] theorem setLimit_governor_rampRemainder (l : LimitSource) (v : Nat) (s : State) :
    (setLimit l v s).governor.rampRemainder = s.governor.rampRemainder := rfl
@[simp] theorem setLimit_governor_rampDirection (l : LimitSource) (v : Nat) (s : State) :
    (setLimit l v s).governor.rampDirection = s.governor.rampDirection := rfl
@[simp] theorem setLimit_governor_width (l : LimitSource) (v : Nat) (s : State) :
    (setLimit l v s).governor.width = s.governor.width := rfl
@[simp] theorem setLimit_governor_nextWidth (l : LimitSource) (v : Nat) (s : State) :
    (setLimit l v s).governor.nextWidth = s.governor.nextWidth := rfl
@[simp] theorem setLimit_governor_periodDue (l : LimitSource) (v : Nat) (s : State) :
    (setLimit l v s).governor.periodDue = s.governor.periodDue := rfl
@[simp] theorem setLimit_governor_brake (l : LimitSource) (v : Nat) (s : State) :
    (setLimit l v s).governor.brake = s.governor.brake := rfl
@[simp] theorem setLimit_governor_standstill (l : LimitSource) (v : Nat) (s : State) :
    (setLimit l v s).governor.standstill = s.governor.standstill := rfl
@[simp] theorem setLimit_governor_overspeedDue (l : LimitSource) (v : Nat) (s : State) :
    (setLimit l v s).governor.overspeedDue = s.governor.overspeedDue := rfl
@[simp] theorem setLimit_governor_causes (l : LimitSource) (v : Nat) (s : State) :
    (setLimit l v s).governor.causes = s.governor.causes := rfl
@[simp] theorem setLimit_governor_limits (l : LimitSource) (v : Nat) (s : State) :
    (setLimit l v s).governor.limits = s.governor.limits.put v l := rfl

/-! ### mapCounters and mapQueue -/

@[simp] theorem mapCounters_pending (f : Counters → Counters) (s : State) : (s.mapCounters f).pending = s.pending := rfl
@[simp] theorem mapCounters_nowUs (f : Counters → Counters) (s : State) : (s.mapCounters f).nowUs = s.nowUs := rfl
@[simp] theorem mapCounters_epochUs (f : Counters → Counters) (s : State) : (s.mapCounters f).epochUs = s.epochUs := rfl
@[simp] theorem mapCounters_path (f : Counters → Counters) (s : State) : (s.mapCounters f).path = s.path := rfl
@[simp] theorem mapCounters_channel (f : Counters → Counters) (s : State) : (s.mapCounters f).channel = s.channel := rfl
@[simp] theorem mapCounters_zone (f : Counters → Counters) (s : State) : (s.mapCounters f).zone = s.zone := rfl
@[simp] theorem mapCounters_governor (f : Counters → Counters) (s : State) : (s.mapCounters f).governor = s.governor := rfl
@[simp] theorem mapCounters_scanner (f : Counters → Counters) (s : State) : (s.mapCounters f).scanner = s.scanner := rfl
@[simp] theorem mapCounters_steering (f : Counters → Counters) (s : State) : (s.mapCounters f).steering = s.steering := rfl
@[simp] theorem mapCounters_restraints (f : Counters → Counters) (s : State) : (s.mapCounters f).restraints = s.restraints := rfl
@[simp] theorem mapCounters_content (f : Counters → Counters) (s : State) : (s.mapCounters f).content = s.content := rfl
@[simp] theorem mapCounters_cues (f : Counters → Counters) (s : State) : (s.mapCounters f).cues = s.cues := rfl
@[simp] theorem mapCounters_sound (f : Counters → Counters) (s : State) : (s.mapCounters f).sound = s.sound := rfl
@[simp] theorem mapCounters_startUp_run (f : Counters → Counters) (s : State) :
    (s.mapCounters f).startUp.run = s.startUp.run := rfl
@[simp] theorem mapCounters_startUp_config (f : Counters → Counters) (s : State) :
    (s.mapCounters f).startUp.config = s.startUp.config := rfl
@[simp] theorem mapCounters_startUp_clamped (f : Counters → Counters) (s : State) :
    (s.mapCounters f).startUp.clamped = s.startUp.clamped := rfl
@[simp] theorem mapCounters_startUp_faults (f : Counters → Counters) (s : State) :
    (s.mapCounters f).startUp.faults = s.startUp.faults := rfl
@[simp] theorem mapCounters_startUp_first (f : Counters → Counters) (s : State) :
    (s.mapCounters f).startUp.first = s.startUp.first := rfl
@[simp] theorem mapCounters_startUp_counters (f : Counters → Counters) (s : State) :
    (s.mapCounters f).startUp.counters = f s.startUp.counters := rfl
@[simp] theorem mapQueue_pending (f : List TxFrame → List TxFrame) (s : State) : (mapQueue f s).pending = s.pending := rfl
@[simp] theorem mapQueue_nowUs (f : List TxFrame → List TxFrame) (s : State) : (mapQueue f s).nowUs = s.nowUs := rfl
@[simp] theorem mapQueue_epochUs (f : List TxFrame → List TxFrame) (s : State) : (mapQueue f s).epochUs = s.epochUs := rfl
@[simp] theorem mapQueue_startUp (f : List TxFrame → List TxFrame) (s : State) : (mapQueue f s).startUp = s.startUp := rfl
@[simp] theorem mapQueue_path (f : List TxFrame → List TxFrame) (s : State) : (mapQueue f s).path = s.path := rfl
@[simp] theorem mapQueue_zone (f : List TxFrame → List TxFrame) (s : State) : (mapQueue f s).zone = s.zone := rfl
@[simp] theorem mapQueue_governor (f : List TxFrame → List TxFrame) (s : State) : (mapQueue f s).governor = s.governor := rfl
@[simp] theorem mapQueue_scanner (f : List TxFrame → List TxFrame) (s : State) : (mapQueue f s).scanner = s.scanner := rfl
@[simp] theorem mapQueue_steering (f : List TxFrame → List TxFrame) (s : State) : (mapQueue f s).steering = s.steering := rfl
@[simp] theorem mapQueue_restraints (f : List TxFrame → List TxFrame) (s : State) : (mapQueue f s).restraints = s.restraints := rfl
@[simp] theorem mapQueue_content (f : List TxFrame → List TxFrame) (s : State) : (mapQueue f s).content = s.content := rfl
@[simp] theorem mapQueue_cues (f : List TxFrame → List TxFrame) (s : State) : (mapQueue f s).cues = s.cues := rfl
@[simp] theorem mapQueue_sound (f : List TxFrame → List TxFrame) (s : State) : (mapQueue f s).sound = s.sound := rfl
@[simp] theorem mapQueue_channel_attempt (f : List TxFrame → List TxFrame) (s : State) :
    (mapQueue f s).channel.attempt = s.channel.attempt := rfl
@[simp] theorem mapQueue_channel_pendingPose (f : List TxFrame → List TxFrame) (s : State) :
    (mapQueue f s).channel.pendingPose = s.channel.pendingPose := rfl
@[simp] theorem mapQueue_channel_seqCounter (f : List TxFrame → List TxFrame) (s : State) :
    (mapQueue f s).channel.seqCounter = s.channel.seqCounter := rfl
@[simp] theorem mapQueue_channel_lastSeq (f : List TxFrame → List TxFrame) (s : State) :
    (mapQueue f s).channel.lastSeq = s.channel.lastSeq := rfl
@[simp] theorem mapQueue_channel_deafDue (f : List TxFrame → List TxFrame) (s : State) :
    (mapQueue f s).channel.deafDue = s.channel.deafDue := rfl
@[simp] theorem mapQueue_channel_deaf (f : List TxFrame → List TxFrame) (s : State) :
    (mapQueue f s).channel.deaf = s.channel.deaf := rfl
@[simp] theorem mapQueue_channel_poseGiveUps (f : List TxFrame → List TxFrame) (s : State) :
    (mapQueue f s).channel.poseGiveUps = s.channel.poseGiveUps := rfl
@[simp] theorem mapQueue_channel_txFail (f : List TxFrame → List TxFrame) (s : State) :
    (mapQueue f s).channel.txFail = s.channel.txFail := rfl
@[simp] theorem mapQueue_channel_lastDuplicate (f : List TxFrame → List TxFrame) (s : State) :
    (mapQueue f s).channel.lastDuplicate = s.channel.lastDuplicate := rfl
@[simp] theorem mapQueue_channel_receiver (f : List TxFrame → List TxFrame) (s : State) :
    (mapQueue f s).channel.receiver = s.channel.receiver := rfl
@[simp] theorem mapQueue_channel_cdLowSince (f : List TxFrame → List TxFrame) (s : State) :
    (mapQueue f s).channel.cdLowSince = s.channel.cdLowSince := rfl
@[simp] theorem mapQueue_channel_queue (f : List TxFrame → List TxFrame) (s : State) :
    (mapQueue f s).channel.queue = f s.channel.queue := rfl

/-! ### advance -/

@[simp] theorem advance_pending (dt : Nat) (s : State) : (advance dt s).pending = s.pending := rfl
@[simp] theorem advance_nowUs (dt : Nat) (s : State) : (advance dt s).nowUs = s.nowUs + dt := rfl
@[simp] theorem advance_epochUs (dt : Nat) (s : State) : (advance dt s).epochUs = s.epochUs := rfl
@[simp] theorem advance_startUp (dt : Nat) (s : State) : (advance dt s).startUp = s.startUp := rfl
@[simp] theorem advance_path (dt : Nat) (s : State) : (advance dt s).path = s.path := rfl
@[simp] theorem advance_channel (dt : Nat) (s : State) : (advance dt s).channel = s.channel := rfl
@[simp] theorem advance_zone (dt : Nat) (s : State) : (advance dt s).zone = s.zone := rfl
@[simp] theorem advance_governor (dt : Nat) (s : State) : (advance dt s).governor = s.governor := rfl
@[simp] theorem advance_scanner (dt : Nat) (s : State) : (advance dt s).scanner = s.scanner := rfl
@[simp] theorem advance_steering (dt : Nat) (s : State) : (advance dt s).steering = s.steering := rfl
@[simp] theorem advance_restraints (dt : Nat) (s : State) : (advance dt s).restraints = s.restraints := rfl
@[simp] theorem advance_content (dt : Nat) (s : State) : (advance dt s).content = s.content := rfl
@[simp] theorem advance_cues (dt : Nat) (s : State) : (advance dt s).cues = s.cues := rfl
@[simp] theorem advance_sound (dt : Nat) (s : State) : (advance dt s).sound = s.sound := rfl

/-! ### raiseFault and withFaults -/

@[simp] theorem raiseFault_pending (k : FaultKind) (s : State) : (raiseFault k s).pending = s.pending := rfl
@[simp] theorem raiseFault_nowUs (k : FaultKind) (s : State) : (raiseFault k s).nowUs = s.nowUs := rfl
@[simp] theorem raiseFault_epochUs (k : FaultKind) (s : State) : (raiseFault k s).epochUs = s.epochUs := rfl
@[simp] theorem raiseFault_path (k : FaultKind) (s : State) : (raiseFault k s).path = s.path := rfl
@[simp] theorem raiseFault_channel (k : FaultKind) (s : State) : (raiseFault k s).channel = s.channel := rfl
@[simp] theorem raiseFault_zone (k : FaultKind) (s : State) : (raiseFault k s).zone = s.zone := rfl
@[simp] theorem raiseFault_governor (k : FaultKind) (s : State) : (raiseFault k s).governor = s.governor := rfl
@[simp] theorem raiseFault_scanner (k : FaultKind) (s : State) : (raiseFault k s).scanner = s.scanner := rfl
@[simp] theorem raiseFault_steering (k : FaultKind) (s : State) : (raiseFault k s).steering = s.steering := rfl
@[simp] theorem raiseFault_restraints (k : FaultKind) (s : State) : (raiseFault k s).restraints = s.restraints := rfl
@[simp] theorem raiseFault_content (k : FaultKind) (s : State) : (raiseFault k s).content = s.content := rfl
@[simp] theorem raiseFault_cues (k : FaultKind) (s : State) : (raiseFault k s).cues = s.cues := rfl
@[simp] theorem raiseFault_sound (k : FaultKind) (s : State) : (raiseFault k s).sound = s.sound := rfl
@[simp] theorem raiseFault_startUp_run (k : FaultKind) (s : State) :
    (raiseFault k s).startUp.run = s.startUp.run := rfl
@[simp] theorem raiseFault_startUp_config (k : FaultKind) (s : State) :
    (raiseFault k s).startUp.config = s.startUp.config := rfl
@[simp] theorem raiseFault_startUp_clamped (k : FaultKind) (s : State) :
    (raiseFault k s).startUp.clamped = s.startUp.clamped := rfl
@[simp] theorem raiseFault_startUp_counters (k : FaultKind) (s : State) :
    (raiseFault k s).startUp.counters = s.startUp.counters := rfl
@[simp] theorem withFaults_pending (k : FaultSet) (s : State) : (withFaults k s).pending = s.pending := rfl
@[simp] theorem withFaults_nowUs (k : FaultSet) (s : State) : (withFaults k s).nowUs = s.nowUs := rfl
@[simp] theorem withFaults_epochUs (k : FaultSet) (s : State) : (withFaults k s).epochUs = s.epochUs := rfl
@[simp] theorem withFaults_path (k : FaultSet) (s : State) : (withFaults k s).path = s.path := rfl
@[simp] theorem withFaults_channel (k : FaultSet) (s : State) : (withFaults k s).channel = s.channel := rfl
@[simp] theorem withFaults_zone (k : FaultSet) (s : State) : (withFaults k s).zone = s.zone := rfl
@[simp] theorem withFaults_governor (k : FaultSet) (s : State) : (withFaults k s).governor = s.governor := rfl
@[simp] theorem withFaults_scanner (k : FaultSet) (s : State) : (withFaults k s).scanner = s.scanner := rfl
@[simp] theorem withFaults_steering (k : FaultSet) (s : State) : (withFaults k s).steering = s.steering := rfl
@[simp] theorem withFaults_restraints (k : FaultSet) (s : State) : (withFaults k s).restraints = s.restraints := rfl
@[simp] theorem withFaults_content (k : FaultSet) (s : State) : (withFaults k s).content = s.content := rfl
@[simp] theorem withFaults_cues (k : FaultSet) (s : State) : (withFaults k s).cues = s.cues := rfl
@[simp] theorem withFaults_sound (k : FaultSet) (s : State) : (withFaults k s).sound = s.sound := rfl
@[simp] theorem withFaults_startUp_run (k : FaultSet) (s : State) :
    (withFaults k s).startUp.run = s.startUp.run := rfl
@[simp] theorem withFaults_startUp_config (k : FaultSet) (s : State) :
    (withFaults k s).startUp.config = s.startUp.config := rfl
@[simp] theorem withFaults_startUp_clamped (k : FaultSet) (s : State) :
    (withFaults k s).startUp.clamped = s.startUp.clamped := rfl
@[simp] theorem withFaults_startUp_counters (k : FaultSet) (s : State) :
    (withFaults k s).startUp.counters = s.startUp.counters := rfl
@[simp] theorem removeFault_pending (k : FaultKind) (s : State) : (removeFault k s).pending = s.pending := rfl
@[simp] theorem removeFault_nowUs (k : FaultKind) (s : State) : (removeFault k s).nowUs = s.nowUs := rfl
@[simp] theorem removeFault_epochUs (k : FaultKind) (s : State) : (removeFault k s).epochUs = s.epochUs := rfl
@[simp] theorem removeFault_path (k : FaultKind) (s : State) : (removeFault k s).path = s.path := rfl
@[simp] theorem removeFault_channel (k : FaultKind) (s : State) : (removeFault k s).channel = s.channel := rfl
@[simp] theorem removeFault_zone (k : FaultKind) (s : State) : (removeFault k s).zone = s.zone := rfl
@[simp] theorem removeFault_governor (k : FaultKind) (s : State) : (removeFault k s).governor = s.governor := rfl
@[simp] theorem removeFault_scanner (k : FaultKind) (s : State) : (removeFault k s).scanner = s.scanner := rfl
@[simp] theorem removeFault_steering (k : FaultKind) (s : State) : (removeFault k s).steering = s.steering := rfl
@[simp] theorem removeFault_restraints (k : FaultKind) (s : State) : (removeFault k s).restraints = s.restraints := rfl
@[simp] theorem removeFault_content (k : FaultKind) (s : State) : (removeFault k s).content = s.content := rfl
@[simp] theorem removeFault_cues (k : FaultKind) (s : State) : (removeFault k s).cues = s.cues := rfl
@[simp] theorem removeFault_sound (k : FaultKind) (s : State) : (removeFault k s).sound = s.sound := rfl
@[simp] theorem removeFault_startUp_run (k : FaultKind) (s : State) :
    (removeFault k s).startUp.run = s.startUp.run := rfl
@[simp] theorem removeFault_startUp_config (k : FaultKind) (s : State) :
    (removeFault k s).startUp.config = s.startUp.config := rfl
@[simp] theorem removeFault_startUp_clamped (k : FaultKind) (s : State) :
    (removeFault k s).startUp.clamped = s.startUp.clamped := rfl
@[simp] theorem removeFault_startUp_counters (k : FaultKind) (s : State) :
    (removeFault k s).startUp.counters = s.startUp.counters := rfl
@[simp] theorem raiseFault_startUp_faults (k : FaultKind) (s : State) :
    (raiseFault k s).startUp.faults = s.startUp.faults.put true k := rfl
@[simp] theorem withFaults_startUp_faults (k : FaultSet) (s : State) :
    (withFaults k s).startUp.faults = k := rfl

/-! ### The limit table -/

@[simp] theorem put_get_self (t : LimitTable) (v : Nat) (l : LimitSource) : (t.put v l).get l = v := by
  cases l <;> rfl

@[simp] theorem put_cap_cap (t : LimitTable) (v : Nat) : (t.put v .cap).cap = v := rfl
@[simp] theorem put_cap_zone (t : LimitTable) (v : Nat) : (t.put v .cap).zone = t.zone := rfl
@[simp] theorem put_cap_tag (t : LimitTable) (v : Nat) : (t.put v .cap).tag = t.tag := rfl
@[simp] theorem put_cap_guide (t : LimitTable) (v : Nat) : (t.put v .cap).guide = t.guide := rfl
@[simp] theorem put_cap_load (t : LimitTable) (v : Nat) : (t.put v .cap).load = t.load := rfl
@[simp] theorem put_cap_showHold (t : LimitTable) (v : Nat) : (t.put v .cap).showHold = t.showHold := rfl
@[simp] theorem put_cap_ride (t : LimitTable) (v : Nat) : (t.put v .cap).ride = t.ride := rfl
@[simp] theorem put_cap_restraint (t : LimitTable) (v : Nat) : (t.put v .cap).restraint = t.restraint := rfl
@[simp] theorem put_cap_channel (t : LimitTable) (v : Nat) : (t.put v .cap).channel = t.channel := rfl
@[simp] theorem put_cap_safety (t : LimitTable) (v : Nat) : (t.put v .cap).safety = t.safety := rfl
@[simp] theorem put_zone_cap (t : LimitTable) (v : Nat) : (t.put v .zone).cap = t.cap := rfl
@[simp] theorem put_zone_zone (t : LimitTable) (v : Nat) : (t.put v .zone).zone = v := rfl
@[simp] theorem put_zone_tag (t : LimitTable) (v : Nat) : (t.put v .zone).tag = t.tag := rfl
@[simp] theorem put_zone_guide (t : LimitTable) (v : Nat) : (t.put v .zone).guide = t.guide := rfl
@[simp] theorem put_zone_load (t : LimitTable) (v : Nat) : (t.put v .zone).load = t.load := rfl
@[simp] theorem put_zone_showHold (t : LimitTable) (v : Nat) : (t.put v .zone).showHold = t.showHold := rfl
@[simp] theorem put_zone_ride (t : LimitTable) (v : Nat) : (t.put v .zone).ride = t.ride := rfl
@[simp] theorem put_zone_restraint (t : LimitTable) (v : Nat) : (t.put v .zone).restraint = t.restraint := rfl
@[simp] theorem put_zone_channel (t : LimitTable) (v : Nat) : (t.put v .zone).channel = t.channel := rfl
@[simp] theorem put_zone_safety (t : LimitTable) (v : Nat) : (t.put v .zone).safety = t.safety := rfl
@[simp] theorem put_tag_cap (t : LimitTable) (v : Nat) : (t.put v .tag).cap = t.cap := rfl
@[simp] theorem put_tag_zone (t : LimitTable) (v : Nat) : (t.put v .tag).zone = t.zone := rfl
@[simp] theorem put_tag_tag (t : LimitTable) (v : Nat) : (t.put v .tag).tag = v := rfl
@[simp] theorem put_tag_guide (t : LimitTable) (v : Nat) : (t.put v .tag).guide = t.guide := rfl
@[simp] theorem put_tag_load (t : LimitTable) (v : Nat) : (t.put v .tag).load = t.load := rfl
@[simp] theorem put_tag_showHold (t : LimitTable) (v : Nat) : (t.put v .tag).showHold = t.showHold := rfl
@[simp] theorem put_tag_ride (t : LimitTable) (v : Nat) : (t.put v .tag).ride = t.ride := rfl
@[simp] theorem put_tag_restraint (t : LimitTable) (v : Nat) : (t.put v .tag).restraint = t.restraint := rfl
@[simp] theorem put_tag_channel (t : LimitTable) (v : Nat) : (t.put v .tag).channel = t.channel := rfl
@[simp] theorem put_tag_safety (t : LimitTable) (v : Nat) : (t.put v .tag).safety = t.safety := rfl
@[simp] theorem put_guide_cap (t : LimitTable) (v : Nat) : (t.put v .guide).cap = t.cap := rfl
@[simp] theorem put_guide_zone (t : LimitTable) (v : Nat) : (t.put v .guide).zone = t.zone := rfl
@[simp] theorem put_guide_tag (t : LimitTable) (v : Nat) : (t.put v .guide).tag = t.tag := rfl
@[simp] theorem put_guide_guide (t : LimitTable) (v : Nat) : (t.put v .guide).guide = v := rfl
@[simp] theorem put_guide_load (t : LimitTable) (v : Nat) : (t.put v .guide).load = t.load := rfl
@[simp] theorem put_guide_showHold (t : LimitTable) (v : Nat) : (t.put v .guide).showHold = t.showHold := rfl
@[simp] theorem put_guide_ride (t : LimitTable) (v : Nat) : (t.put v .guide).ride = t.ride := rfl
@[simp] theorem put_guide_restraint (t : LimitTable) (v : Nat) : (t.put v .guide).restraint = t.restraint := rfl
@[simp] theorem put_guide_channel (t : LimitTable) (v : Nat) : (t.put v .guide).channel = t.channel := rfl
@[simp] theorem put_guide_safety (t : LimitTable) (v : Nat) : (t.put v .guide).safety = t.safety := rfl
@[simp] theorem put_load_cap (t : LimitTable) (v : Nat) : (t.put v .load).cap = t.cap := rfl
@[simp] theorem put_load_zone (t : LimitTable) (v : Nat) : (t.put v .load).zone = t.zone := rfl
@[simp] theorem put_load_tag (t : LimitTable) (v : Nat) : (t.put v .load).tag = t.tag := rfl
@[simp] theorem put_load_guide (t : LimitTable) (v : Nat) : (t.put v .load).guide = t.guide := rfl
@[simp] theorem put_load_load (t : LimitTable) (v : Nat) : (t.put v .load).load = v := rfl
@[simp] theorem put_load_showHold (t : LimitTable) (v : Nat) : (t.put v .load).showHold = t.showHold := rfl
@[simp] theorem put_load_ride (t : LimitTable) (v : Nat) : (t.put v .load).ride = t.ride := rfl
@[simp] theorem put_load_restraint (t : LimitTable) (v : Nat) : (t.put v .load).restraint = t.restraint := rfl
@[simp] theorem put_load_channel (t : LimitTable) (v : Nat) : (t.put v .load).channel = t.channel := rfl
@[simp] theorem put_load_safety (t : LimitTable) (v : Nat) : (t.put v .load).safety = t.safety := rfl
@[simp] theorem put_showHold_cap (t : LimitTable) (v : Nat) : (t.put v .showHold).cap = t.cap := rfl
@[simp] theorem put_showHold_zone (t : LimitTable) (v : Nat) : (t.put v .showHold).zone = t.zone := rfl
@[simp] theorem put_showHold_tag (t : LimitTable) (v : Nat) : (t.put v .showHold).tag = t.tag := rfl
@[simp] theorem put_showHold_guide (t : LimitTable) (v : Nat) : (t.put v .showHold).guide = t.guide := rfl
@[simp] theorem put_showHold_load (t : LimitTable) (v : Nat) : (t.put v .showHold).load = t.load := rfl
@[simp] theorem put_showHold_showHold (t : LimitTable) (v : Nat) : (t.put v .showHold).showHold = v := rfl
@[simp] theorem put_showHold_ride (t : LimitTable) (v : Nat) : (t.put v .showHold).ride = t.ride := rfl
@[simp] theorem put_showHold_restraint (t : LimitTable) (v : Nat) : (t.put v .showHold).restraint = t.restraint := rfl
@[simp] theorem put_showHold_channel (t : LimitTable) (v : Nat) : (t.put v .showHold).channel = t.channel := rfl
@[simp] theorem put_showHold_safety (t : LimitTable) (v : Nat) : (t.put v .showHold).safety = t.safety := rfl
@[simp] theorem put_ride_cap (t : LimitTable) (v : Nat) : (t.put v .ride).cap = t.cap := rfl
@[simp] theorem put_ride_zone (t : LimitTable) (v : Nat) : (t.put v .ride).zone = t.zone := rfl
@[simp] theorem put_ride_tag (t : LimitTable) (v : Nat) : (t.put v .ride).tag = t.tag := rfl
@[simp] theorem put_ride_guide (t : LimitTable) (v : Nat) : (t.put v .ride).guide = t.guide := rfl
@[simp] theorem put_ride_load (t : LimitTable) (v : Nat) : (t.put v .ride).load = t.load := rfl
@[simp] theorem put_ride_showHold (t : LimitTable) (v : Nat) : (t.put v .ride).showHold = t.showHold := rfl
@[simp] theorem put_ride_ride (t : LimitTable) (v : Nat) : (t.put v .ride).ride = v := rfl
@[simp] theorem put_ride_restraint (t : LimitTable) (v : Nat) : (t.put v .ride).restraint = t.restraint := rfl
@[simp] theorem put_ride_channel (t : LimitTable) (v : Nat) : (t.put v .ride).channel = t.channel := rfl
@[simp] theorem put_ride_safety (t : LimitTable) (v : Nat) : (t.put v .ride).safety = t.safety := rfl
@[simp] theorem put_restraint_cap (t : LimitTable) (v : Nat) : (t.put v .restraint).cap = t.cap := rfl
@[simp] theorem put_restraint_zone (t : LimitTable) (v : Nat) : (t.put v .restraint).zone = t.zone := rfl
@[simp] theorem put_restraint_tag (t : LimitTable) (v : Nat) : (t.put v .restraint).tag = t.tag := rfl
@[simp] theorem put_restraint_guide (t : LimitTable) (v : Nat) : (t.put v .restraint).guide = t.guide := rfl
@[simp] theorem put_restraint_load (t : LimitTable) (v : Nat) : (t.put v .restraint).load = t.load := rfl
@[simp] theorem put_restraint_showHold (t : LimitTable) (v : Nat) : (t.put v .restraint).showHold = t.showHold := rfl
@[simp] theorem put_restraint_ride (t : LimitTable) (v : Nat) : (t.put v .restraint).ride = t.ride := rfl
@[simp] theorem put_restraint_restraint (t : LimitTable) (v : Nat) : (t.put v .restraint).restraint = v := rfl
@[simp] theorem put_restraint_channel (t : LimitTable) (v : Nat) : (t.put v .restraint).channel = t.channel := rfl
@[simp] theorem put_restraint_safety (t : LimitTable) (v : Nat) : (t.put v .restraint).safety = t.safety := rfl
@[simp] theorem put_channel_cap (t : LimitTable) (v : Nat) : (t.put v .channel).cap = t.cap := rfl
@[simp] theorem put_channel_zone (t : LimitTable) (v : Nat) : (t.put v .channel).zone = t.zone := rfl
@[simp] theorem put_channel_tag (t : LimitTable) (v : Nat) : (t.put v .channel).tag = t.tag := rfl
@[simp] theorem put_channel_guide (t : LimitTable) (v : Nat) : (t.put v .channel).guide = t.guide := rfl
@[simp] theorem put_channel_load (t : LimitTable) (v : Nat) : (t.put v .channel).load = t.load := rfl
@[simp] theorem put_channel_showHold (t : LimitTable) (v : Nat) : (t.put v .channel).showHold = t.showHold := rfl
@[simp] theorem put_channel_ride (t : LimitTable) (v : Nat) : (t.put v .channel).ride = t.ride := rfl
@[simp] theorem put_channel_restraint (t : LimitTable) (v : Nat) : (t.put v .channel).restraint = t.restraint := rfl
@[simp] theorem put_channel_channel (t : LimitTable) (v : Nat) : (t.put v .channel).channel = v := rfl
@[simp] theorem put_channel_safety (t : LimitTable) (v : Nat) : (t.put v .channel).safety = t.safety := rfl
@[simp] theorem put_safety_cap (t : LimitTable) (v : Nat) : (t.put v .safety).cap = t.cap := rfl
@[simp] theorem put_safety_zone (t : LimitTable) (v : Nat) : (t.put v .safety).zone = t.zone := rfl
@[simp] theorem put_safety_tag (t : LimitTable) (v : Nat) : (t.put v .safety).tag = t.tag := rfl
@[simp] theorem put_safety_guide (t : LimitTable) (v : Nat) : (t.put v .safety).guide = t.guide := rfl
@[simp] theorem put_safety_load (t : LimitTable) (v : Nat) : (t.put v .safety).load = t.load := rfl
@[simp] theorem put_safety_showHold (t : LimitTable) (v : Nat) : (t.put v .safety).showHold = t.showHold := rfl
@[simp] theorem put_safety_ride (t : LimitTable) (v : Nat) : (t.put v .safety).ride = t.ride := rfl
@[simp] theorem put_safety_restraint (t : LimitTable) (v : Nat) : (t.put v .safety).restraint = t.restraint := rfl
@[simp] theorem put_safety_channel (t : LimitTable) (v : Nat) : (t.put v .safety).channel = t.channel := rfl
@[simp] theorem put_safety_safety (t : LimitTable) (v : Nat) : (t.put v .safety).safety = v := rfl

/-! ### Sets of faults and causes -/

@[simp] theorem has_put_self (f : FaultSet) (b : Bool) (k : FaultKind) : (f.put b k).has k = b := by
  cases k <;> rfl

theorem has_put_ne (f : FaultSet) (b : Bool) {k j : FaultKind} (h : j ≠ k) : (f.put b k).has j = f.has j := by
  cases k <;> cases j <;> first | rfl | exact absurd rfl h

@[simp] theorem causes_has_put_self (c : CauseSet) (b : Bool) (k : StopCause) : (c.put b k).has k = b := by
  cases k <;> rfl

theorem causes_has_put_ne (c : CauseSet) (b : Bool) {k j : StopCause} (h : j ≠ k) : (c.put b k).has j = c.has j := by
  cases k <;> cases j <;> first | rfl | exact absurd rfl h

/-- A cause that has been latched makes the set non-empty. -/
theorem causes_any_put_true (c : CauseSet) (k : StopCause) : (c.put true k).any = true := by
  cases k <;> simp [CauseSet.put, CauseSet.any]

theorem causes_any_of_has {c : CauseSet} {k : StopCause} (h : c.has k = true) : c.any = true := by
  cases k <;> simp_all [CauseSet.has, CauseSet.any]

end Sys2Proof.Machine
end

