-- ==== Sys2Proof/Laws/Frames.lean ====
section
/-! SUPPORT. What the shared operations leave alone. `exceptSound` forgets what content reads and sound may change
(sound, content, counters); an operation that leaves `exceptSound` as it was changes nothing else. `exceptShow` forgets,
besides, what a cue evaluation may change: the Cue Engine, the transmit queue and the SHOW entry. -/

namespace Sys2Proof.Machine

def State.exceptSound (s : State) : State :=
  { s with
    sound := State.reset.sound
    content := State.reset.content
    startUp := { s.startUp with counters := Counters.zero } }

/-- A fold keeps what each of its steps keeps. -/
theorem foldl_keeps {α β : Type} (view : State → α) (f : State → β → State) (h : ∀ s x, view (f s x) = view s)
    (l : List β) (s : State) : view (l.foldl f s) = view s := by
  induction l generalizing s with
  | nil => rfl
  | cons x xs ih => rw [List.foldl_cons, ih, h]

section SoundFrames

@[simp] theorem exceptSound_withContent (c : ContentState) (s : State) :
    (withContent c s).exceptSound = s.exceptSound := rfl

@[simp] theorem exceptSound_withSound (x : SoundState) (s : State) :
    (withSound x s).exceptSound = s.exceptSound := rfl

@[simp] theorem exceptSound_mapCounters (f : Counters → Counters) (s : State) :
    (s.mapCounters f).exceptSound = s.exceptSound := rfl

@[simp] theorem exceptSound_countContentError (s : State) : (countContentError s).exceptSound = s.exceptSound := rfl

@[simp] theorem exceptSound_countUnderrun (v : Nat) (s : State) :
    (countUnderrun v s).exceptSound = s.exceptSound := rfl

/-! ### The Content Reader -/

@[simp] theorem exceptSound_startRead (s : State) : (startRead s).exceptSound = s.exceptSound := by
  unfold startRead; repeat' split
  all_goals rfl

@[simp] theorem exceptSound_offerRead (r : Requester) (t : Target) (s : State) :
    (offerRead r t s).1.exceptSound = s.exceptSound := by
  unfold offerRead; repeat' split
  all_goals simp
  all_goals repeat' split
  all_goals simp

@[simp] theorem exceptSound_withdraw (r : Requester) (s : State) : (withdraw r s).exceptSound = s.exceptSound :=
  exceptSound_withContent _ _

/-! ### The Sound Engine -/

@[simp] theorem exceptSound_setVoice (v : Nat) (x : Voice) (s : State) :
    (setVoice v x s).exceptSound = s.exceptSound := rfl

@[simp] theorem exceptSound_setCacheSet (i : Nat) (c : CacheSet) (s : State) :
    (setCacheSet i c s).exceptSound = s.exceptSound := rfl

@[simp] theorem exceptSound_mapSlots (f : Nat → Nat → Slot → Slot) (s : State) :
    (mapSlots f s).exceptSound = s.exceptSound := by
  unfold mapSlots; exact exceptSound_withSound _ _

@[simp] theorem exceptSound_writeBlock (b : Nat) (d : BlockData) (s : State) :
    (writeBlock b d s).exceptSound = s.exceptSound := by
  unfold writeBlock; exact exceptSound_setCacheSet _ _ _

@[simp] theorem exceptSound_withAmp (a : Amplifier) (s : State) : (withAmp a s).exceptSound = s.exceptSound := rfl

@[simp] theorem exceptSound_setPin (place : Nat) (p : Option Pin) (s : State) :
    (setPin place p s).exceptSound = s.exceptSound := rfl

@[simp] theorem exceptSound_upkeepBlock (v : Nat) (s : State) (b : Nat) :
    (upkeepBlock v s b).exceptSound = s.exceptSound := by
  unfold upkeepBlock; dsimp only; repeat' split
  all_goals simp

@[simp] theorem exceptSound_upkeep (v : Nat) (s : State) : (upkeep v s).exceptSound = s.exceptSound :=
  foldl_keeps _ _ (fun s b => exceptSound_upkeepBlock v s b) _ _

@[simp] theorem exceptSound_afterFilling (b s : State) : (afterFilling b s).exceptSound = s.exceptSound :=
  foldl_keeps _ _ (fun s v => by split <;> simp) _ _

@[simp] theorem exceptSound_releaseUnwanted (s : State) : (releaseUnwanted s).exceptSound = s.exceptSound := by
  simp [releaseUnwanted]

@[simp] theorem exceptSound_ampSettle (s : State) : (ampSettle s).exceptSound = s.exceptSound := by
  unfold ampSettle; repeat' split
  all_goals simp

@[simp] theorem exceptSound_toIdle (v : Nat) (s : State) : (toIdle v s).exceptSound = s.exceptSound := by
  simp [toIdle]

/-- A taken block changes the sound state alone. -/
theorem exceptSound_takeBlock {v k : Nat} {s t : State} (h : takeBlock v k s = some t) :
    t.exceptSound = s.exceptSound := by
  simp only [takeBlock, Option.map_eq_some_iff] at h
  obtain ⟨⟨w, d⟩, _, rfl⟩ := h
  rfl

@[simp] theorem exceptSound_takeBlock_getD (v k : Nat) (s : State) :
    ((takeBlock v k s).getD s).exceptSound = s.exceptSound := by
  cases h : takeBlock v k s with
  | none => rfl
  | some t => exact exceptSound_takeBlock h

/-- The same where the block is looked for after another change of the sound state. -/
theorem exceptSound_takeBlock_getD' {v k : Nat} {a s : State} (h : a.exceptSound = s.exceptSound) :
    ((takeBlock v k a).getD s).exceptSound = s.exceptSound := by
  cases g : takeBlock v k a with
  | none => rfl
  | some t => exact (exceptSound_takeBlock g).trans h

/-- Voices taken in turn, each leaving all but the sound alone. -/
theorem exceptSound_each {f : State → Nat → State} (h : ∀ s v, (f s v).exceptSound = s.exceptSound) (l : List Nat)
    (s : State) : (l.foldl f s).exceptSound = s.exceptSound :=
  foldl_keeps _ _ h _ _

@[simp] theorem exceptSound_enterPlaying (v : Nat) (s : State) : (enterPlaying v s).exceptSound = s.exceptSound := by
  unfold enterPlaying; dsimp only
  split
  · split
    · exact exceptSound_takeBlock_getD' (exceptSound_setVoice _ _ _)
    · rfl
  · rfl

@[simp] theorem exceptSound_stayStarting (v : Nat) (s : State) : (stayStarting v s).exceptSound = s.exceptSound := by
  unfold stayStarting; dsimp only; repeat' split
  all_goals simp

@[simp] theorem exceptSound_testStarts (s : State) : (testStarts s).exceptSound = s.exceptSound :=
  (exceptSound_each (fun s v => exceptSound_stayStarting v s) _ _).trans
    (exceptSound_each (fun s v => exceptSound_enterPlaying v s) _ _)

@[simp] theorem exceptSound_voiceStart (s : State) : (voiceStart s).exceptSound = s.exceptSound := by
  unfold voiceStart; split <;> simp

@[simp] theorem exceptSound_noteStart (v : Nat) (s : State) : (noteStart v s).exceptSound = s.exceptSound := by
  unfold noteStart; dsimp only; split <;> simp

@[simp] theorem exceptSound_reworkStarts (vs : List Nat) (s : State) :
    (reworkStarts vs s).exceptSound = s.exceptSound :=
  (exceptSound_each (fun s v => by split <;> simp) _ _).trans
    (exceptSound_each (fun s v => exceptSound_enterPlaying v s) _ _)

@[simp] theorem exceptSound_putStarting (v : Nat) (s : State) : (putStarting v s).exceptSound = s.exceptSound := by
  simp [putStarting]

@[simp] theorem exceptSound_askEntry (v : Nat) (s : State) : (askEntry v s).exceptSound = s.exceptSound := by
  unfold askEntry; dsimp only; repeat' split
  all_goals simp

@[simp] theorem exceptSound_enterStarting (vs : List Nat) (s : State) :
    (enterStarting vs s).exceptSound = s.exceptSound :=
  (exceptSound_each (fun s v => exceptSound_askEntry v s) _ _).trans
    ((exceptSound_reworkStarts vs _).trans (exceptSound_each (fun s v => exceptSound_putStarting v s) _ _))

@[simp] theorem exceptSound_startVoice (v c g : Nat) (l : Bool) (k : Option SceneLock) (s : State) :
    (startVoice v c g l k s).exceptSound = s.exceptSound := by
  unfold startVoice; dsimp only; repeat' split
  all_goals simp

@[simp] theorem exceptSound_stopVoice (v f : Nat) (s : State) : (stopVoice v f s).exceptSound = s.exceptSound := by
  unfold stopVoice; dsimp only; repeat' split
  all_goals simp

@[simp] theorem exceptSound_pauseVoices (s : State) : (pauseVoices s).exceptSound = s.exceptSound := by
  unfold pauseVoices; split
  · rfl
  · simp only [exceptSound_ampSettle, exceptSound_releaseUnwanted]
    exact (foldl_keeps _ _ (fun s v => by simp) _ _).trans (by simp)

@[simp] theorem exceptSound_resumeVoices (s : State) : (resumeVoices s).exceptSound = s.exceptSound := by
  unfold resumeVoices; split
  · simp
  · rfl

@[simp] theorem exceptSound_takeNeeded (v : Nat) (s : State) : (takeNeeded v s).exceptSound = s.exceptSound := by
  unfold takeNeeded; dsimp only; split
  · rename_i t h
    simp [exceptSound_takeBlock h]
  · simp

@[simp] theorem exceptSound_backToStarting (v : Nat) (s : State) :
    (backToStarting v s).exceptSound = s.exceptSound := by
  simp [backToStarting]

@[simp] theorem exceptSound_applyJump (v : Nat) (s : State) : (applyJump v s).exceptSound = s.exceptSound := by
  unfold applyJump; dsimp only; repeat' split
  all_goals simp

@[simp] theorem exceptSound_blockBoundary (v n : Nat) (s : State) :
    (blockBoundary v n s).exceptSound = s.exceptSound := by
  unfold blockBoundary; dsimp only; repeat' split
  all_goals simp

@[simp] theorem exceptSound_advanceVoice (s : State) (v : Nat) : (advanceVoice s v).exceptSound = s.exceptSound := by
  unfold advanceVoice; dsimp only; repeat' split
  all_goals simp

@[simp] theorem exceptSound_driftTest (v : Nat) (s : State) : (driftTest v s).exceptSound = s.exceptSound := by
  unfold driftTest; dsimp only; repeat' split
  all_goals simp

@[simp] theorem exceptSound_soundSync (n : Nat) (s : State) : (soundSync n s).exceptSound = s.exceptSound :=
  foldl_keeps _ _ (fun s v => by dsimp -failIfUnchanged only; split <;> simp) _ _

@[simp] theorem exceptSound_soundClockInvalid (n : Nat) (b s : State) :
    (soundClockInvalid n b s).exceptSound = s.exceptSound :=
  (exceptSound_reworkStarts _ _).trans (exceptSound_each (fun s _ => exceptSound_setVoice _ _ s) _ _)

@[simp] theorem exceptSound_clipEntryToVoice (v : Nat) (e : Option ClipEntry) (s : State) :
    (clipEntryToVoice v e s).exceptSound = s.exceptSound := by
  unfold clipEntryToVoice; dsimp only; repeat' split
  all_goals simp

@[simp] theorem exceptSound_pinSettle (p : Nat) (s : State) : (pinSettle p s).exceptSound = s.exceptSound := by
  unfold pinSettle; repeat' split
  all_goals simp

@[simp] theorem exceptSound_fillPin (p : Nat) (q : Slot → Bool) (e : ClipEntry) (s : State) :
    (fillPin p q e s).exceptSound = s.exceptSound :=
  foldl_keeps _ _ (fun s v => by
    dsimp only
    repeat' split
    all_goals simp) _ _

@[simp] theorem exceptSound_emptyPin (p : Nat) (s : State) : (emptyPin p s).exceptSound = s.exceptSound := by
  simp [emptyPin]

@[simp] theorem exceptSound_clipEntryToPin (p : Nat) (e : Option ClipEntry) (s : State) :
    (clipEntryToPin p e s).exceptSound = s.exceptSound := by
  unfold clipEntryToPin; repeat' split
  all_goals simp

@[simp] theorem exceptSound_proceedVoice (s : State) (v : Nat) : (proceedVoice s v).exceptSound = s.exceptSound := by
  unfold proceedVoice; dsimp only; repeat' split
  all_goals simp

@[simp] theorem exceptSound_proceedVoices (s : State) : (proceedVoices s).exceptSound = s.exceptSound :=
  (exceptSound_each (fun s v => exceptSound_stayStarting v s) _ _).trans (exceptSound_each exceptSound_proceedVoice _ _)

@[simp] theorem exceptSound_blockDelivered (r : Requester) (b : Nat) (d : BlockData) (s : State) :
    (blockDelivered r b d s).exceptSound = s.exceptSound := by
  unfold blockDelivered; dsimp only; split <;> simp

@[simp] theorem exceptSound_pinClip (c : Nat) (s : State) : (pinClip c s).exceptSound = s.exceptSound := by
  unfold pinClip; dsimp only; repeat' split
  all_goals simp

@[simp] theorem exceptSound_unpinClip (c : Nat) (s : State) : (unpinClip c s).exceptSound = s.exceptSound := by
  unfold unpinClip; dsimp only; repeat' split
  all_goals simp

@[simp] theorem exceptSound_invalidateCache (s : State) : (invalidateCache s).exceptSound = s.exceptSound :=
  exceptSound_mapSlots _ _

end SoundFrames

end Sys2Proof.Machine
end

