-- ==== Sys2Proof/Laws/ShowFrames.lean ====
section
/-! SUPPORT. What the Cue Engine and the offers to the transmit queue leave alone. `exceptShow` forgets what they may
change: sound, content, counters, the Cue Engine itself, the queue with the pending POSE, and the SHOW entry. -/

namespace Sys2Proof.Machine

def State.exceptShow (s : State) : State :=
  { s.exceptSound with
    cues := State.reset.cues
    channel := { s.channel with queue := [], pendingPose := none }
    governor := { s.governor with limits := { s.governor.limits with showHold := 0 } } }

/-- What leaves all but the sound alone leaves all but the show alone. -/
theorem exceptShow_of_exceptSound {a b : State} (h : a.exceptSound = b.exceptSound) : a.exceptShow = b.exceptShow :=
  congrArg (fun s : State => { s with
    cues := State.reset.cues
    channel := { s.channel with queue := [], pendingPose := none }
    governor := { s.governor with limits := { s.governor.limits with showHold := 0 } } }) h

@[simp] theorem exceptShow_withCues (c : CueState) (s : State) : (withCues c s).exceptShow = s.exceptShow := rfl

@[simp] theorem exceptShow_setShowHold (v : Nat) (s : State) : (setLimit .showHold v s).exceptShow = s.exceptShow := rfl

@[simp] theorem exceptShow_mapCounters (f : Counters → Counters) (s : State) :
    (s.mapCounters f).exceptShow = s.exceptShow := rfl

@[simp] theorem exceptShow_mapQueue (f : List TxFrame → List TxFrame) (s : State) :
    (mapQueue f s).exceptShow = s.exceptShow := rfl

@[simp] theorem exceptShow_countTxDropped (s : State) : (countTxDropped s).exceptShow = s.exceptShow := rfl

@[simp] theorem exceptShow_countCueLost (s : State) : (countCueLost s).exceptShow = s.exceptShow := rfl

@[simp] theorem exceptShow_countLateCues (n : Nat) (s : State) : (countLateCues n s).exceptShow = s.exceptShow := rfl

@[simp] theorem exceptShow_countMissedCues (n : Nat) (s : State) : (countMissedCues n s).exceptShow = s.exceptShow := rfl

@[simp] theorem exceptShow_countContentError (s : State) : (countContentError s).exceptShow = s.exceptShow := rfl

/-! ### The transmit queue -/

@[simp] theorem exceptShow_placeFrame (d : Nat) (b : TxBody) (s : State) :
    (placeFrame d b s).exceptShow = s.exceptShow := by
  unfold placeFrame; dsimp only; split
  · simp
  · split <;> simp

@[simp] theorem exceptShow_offerFrame (d : Nat) (b : TxBody) (s : State) :
    (offerFrame d b s).exceptShow = s.exceptShow := by
  unfold offerFrame; repeat' split
  all_goals first | rfl | simp

@[simp] theorem exceptShow_offerPose (s : State) : (offerPose s).exceptShow = s.exceptShow :=
  exceptShow_offerFrame _ _ _

/-- The POSE at once changes the queue alone. -/
@[simp] theorem exceptShow_settle (b a : State) : (settle b a).exceptShow = a.exceptShow := by
  unfold settle; split <;> simp

/-! ### The Content Reader and the Sound Engine as the Cue Engine uses them -/

@[simp] theorem exceptShow_withContent (c : ContentState) (s : State) :
    (withContent c s).exceptShow = s.exceptShow := rfl

@[simp] theorem exceptShow_withSound (x : SoundState) (s : State) : (withSound x s).exceptShow = s.exceptShow := rfl

@[simp] theorem exceptShow_startRead (s : State) : (startRead s).exceptShow = s.exceptShow :=
  exceptShow_of_exceptSound (exceptSound_startRead s)

@[simp] theorem exceptShow_offerRead (r : Requester) (t : Target) (s : State) :
    (offerRead r t s).1.exceptShow = s.exceptShow :=
  exceptShow_of_exceptSound (exceptSound_offerRead r t s)

@[simp] theorem exceptShow_withdraw (r : Requester) (s : State) : (withdraw r s).exceptShow = s.exceptShow :=
  exceptShow_of_exceptSound (exceptSound_withdraw r s)

@[simp] theorem exceptShow_startVoice (v c g : Nat) (l : Bool) (k : Option SceneLock) (s : State) :
    (startVoice v c g l k s).exceptShow = s.exceptShow :=
  exceptShow_of_exceptSound (exceptSound_startVoice v c g l k s)

@[simp] theorem exceptShow_stopVoice (v f : Nat) (s : State) : (stopVoice v f s).exceptShow = s.exceptShow :=
  exceptShow_of_exceptSound (exceptSound_stopVoice v f s)

@[simp] theorem exceptShow_pauseVoices (s : State) : (pauseVoices s).exceptShow = s.exceptShow :=
  exceptShow_of_exceptSound (exceptSound_pauseVoices s)

@[simp] theorem exceptShow_resumeVoices (s : State) : (resumeVoices s).exceptShow = s.exceptShow :=
  exceptShow_of_exceptSound (exceptSound_resumeVoices s)

@[simp] theorem exceptShow_soundSync (n : Nat) (s : State) : (soundSync n s).exceptShow = s.exceptShow :=
  exceptShow_of_exceptSound (exceptSound_soundSync n s)

@[simp] theorem exceptShow_soundClockInvalid (n : Nat) (b s : State) :
    (soundClockInvalid n b s).exceptShow = s.exceptShow :=
  exceptShow_of_exceptSound (exceptSound_soundClockInvalid n b s)

@[simp] theorem exceptShow_pinClip (c : Nat) (s : State) : (pinClip c s).exceptShow = s.exceptShow :=
  exceptShow_of_exceptSound (exceptSound_pinClip c s)

@[simp] theorem exceptShow_unpinClip (c : Nat) (s : State) : (unpinClip c s).exceptShow = s.exceptShow :=
  exceptShow_of_exceptSound (exceptSound_unpinClip c s)

@[simp] theorem exceptShow_invalidateCache (s : State) : (invalidateCache s).exceptShow = s.exceptShow :=
  exceptShow_of_exceptSound (exceptSound_invalidateCache s)

/-! ### The Cue Engine -/

@[simp] theorem exceptShow_removeRecord (c m : Nat) (s : State) : (removeRecord c m s).exceptShow = s.exceptShow := rfl

@[simp] theorem exceptShow_withdrawRecord (r : ArmedRecord) (s : State) :
    (withdrawRecord r s).exceptShow = s.exceptShow := by
  unfold withdrawRecord; split <;> simp

@[simp] theorem exceptShow_addRecord (r : ArmedRecord) (s : State) : (addRecord r s).exceptShow = s.exceptShow := by
  unfold addRecord; dsimp only; split <;> simp

@[simp] theorem exceptShow_armCue (c m : Nat) (o : Origin) (f : Option (Nat × Nat)) (s : State) :
    (armCue c m o f s).exceptShow = s.exceptShow := by
  unfold armCue; dsimp only; repeat' split
  all_goals simp

@[simp] theorem exceptShow_withHold (h : ShowHold) (v : Nat) (s : State) : (withHold h v s).exceptShow = s.exceptShow :=
  rfl

@[simp] theorem exceptShow_holdShow (w : Nat) (s : State) : (holdShow w s).exceptShow = s.exceptShow := by
  unfold holdShow; dsimp only; repeat' split
  all_goals simp

@[simp] theorem exceptShow_startHold (s : State) : (startHold s).exceptShow = s.exceptShow := by
  unfold startHold; repeat' split
  all_goals simp

@[simp] theorem exceptShow_setEffect (l : Nat) (m : EffectMode) (s : State) :
    (setEffect l m s).exceptShow = s.exceptShow := rfl

@[simp] theorem exceptShow_performAction (r : ArmedRecord) (s : State) (a : Action) :
    (performAction r s a).exceptShow = s.exceptShow := by
  unfold performAction; repeat' split
  all_goals simp

@[simp] theorem exceptShow_fireRecord (s : State) (r : ArmedRecord) : (fireRecord s r).exceptShow = s.exceptShow :=
  foldl_keeps _ _ (exceptShow_performAction r) _ _

/-- A cue evaluation changes the show alone. -/
@[simp] theorem exceptShow_evaluate (f : Option (Nat × Nat)) (s : State) : (evaluate f s).exceptShow = s.exceptShow := by
  unfold evaluate; dsimp only; split
  · rfl
  · exact (foldl_keeps _ _ exceptShow_fireRecord _ _).trans (by simp)

@[simp] theorem exceptShow_cueEntryDelivered (c m : Nat) (e : Option CueEntry) (s : State) :
    (cueEntryDelivered c m e s).exceptShow = s.exceptShow := by
  unfold cueEntryDelivered; repeat' split
  all_goals simp

@[simp] theorem exceptShow_takeFaultLevels (s : State) : (takeFaultLevels s).exceptShow = s.exceptShow := rfl

@[simp] theorem exceptShow_tellStops (c : CueState) (s : State) : (tellStops c s).exceptShow = s.exceptShow := by
  unfold tellStops; dsimp only; repeat' split
  all_goals simp [beginSuspension, endSuspension]

@[simp] theorem exceptShow_tellRestraintStop (b : Bool) (s : State) :
    (tellRestraintStop b s).exceptShow = s.exceptShow := exceptShow_tellStops _ _

@[simp] theorem exceptShow_tellSafetyStop (b : Bool) (s : State) :
    (tellSafetyStop b s).exceptShow = s.exceptShow := exceptShow_tellStops _ _

@[simp] theorem exceptShow_emptyArmed (s : State) : (emptyArmed s).exceptShow = s.exceptShow :=
  foldl_keeps _ _ (fun s r => exceptShow_withdrawRecord r s) _ _

@[simp] theorem exceptShow_cuesAtLoad (s : State) : (cuesAtLoad s).exceptShow = s.exceptShow := by
  unfold cuesAtLoad; dsimp only; split <;> simp

@[simp] theorem exceptShow_setClock (n : Nat) (c : SceneClock) (s : State) : (setClock n c s).exceptShow = s.exceptShow :=
  rfl

@[simp] theorem exceptShow_takeSync (n c : Nat) (s : State) : (takeSync n c s).exceptShow = s.exceptShow := by
  simp [takeSync]

@[simp] theorem exceptShow_expireClock (n : Nat) (c : SceneClock) (s : State) :
    (expireClock n c s).exceptShow = s.exceptShow := by
  simp [expireClock]

/-! ### What finished reads deliver -/

@[simp] theorem exceptShow_deliverTo (t : Target) (d : BlockData) (r : Requester) (s : State) :
    (deliverTo t d r s).exceptShow = s.exceptShow := by
  unfold deliverTo; split
  · exact exceptShow_of_exceptSound (exceptSound_blockDelivered _ _ _ _)
  · exact exceptShow_of_exceptSound (exceptSound_blockDelivered _ _ _ _)
  · exact exceptShow_of_exceptSound (exceptSound_clipEntryToVoice _ _ _)
  · exact exceptShow_of_exceptSound (exceptSound_clipEntryToPin _ _ _)
  · exact exceptShow_cueEntryDelivered _ _ _ _
  · exact Eq.refl _

@[simp] theorem exceptShow_deliverTurn (t : Target) (d : BlockData) (s : State) (w : Waiter) :
    (deliverTurn t d s w).exceptShow = s.exceptShow := by
  unfold deliverTurn; split <;> simp

@[simp] theorem exceptShow_finishRead (t : Target) (ws : List Waiter) (d : BlockData) (s : State) :
    (finishRead t ws d s).exceptShow = s.exceptShow := by
  simp only [finishRead, exceptShow_startRead, exceptShow_withContent]
  refine (foldl_keeps State.exceptShow _ (exceptShow_deliverTurn t d) _ _).trans ?_
  split <;> simp

/-! ### From `exceptShow` to the fields -/

section Fields

variable {a b : State} (h : a.exceptShow = b.exceptShow)
include h

theorem pending_of_exceptShow : a.pending = b.pending := by
  have g := congrArg State.pending h
  exact g
theorem nowUs_of_exceptShow : a.nowUs = b.nowUs := by
  have g := congrArg State.nowUs h
  exact g
theorem epochUs_of_exceptShow : a.epochUs = b.epochUs := by
  have g := congrArg State.epochUs h
  exact g
theorem path_of_exceptShow : a.path = b.path := by
  have g := congrArg State.path h
  exact g
theorem zone_of_exceptShow : a.zone = b.zone := by
  have g := congrArg State.zone h
  exact g
theorem scanner_of_exceptShow : a.scanner = b.scanner := by
  have g := congrArg State.scanner h
  exact g
theorem steering_of_exceptShow : a.steering = b.steering := by
  have g := congrArg State.steering h
  exact g
theorem restraints_of_exceptShow : a.restraints = b.restraints := by
  have g := congrArg State.restraints h
  exact g
theorem run_of_exceptShow : a.startUp.run = b.startUp.run := by
  have g := congrArg (fun s : State => s.startUp.run) h
  exact g
theorem config_of_exceptShow : a.startUp.config = b.startUp.config := by
  have g := congrArg (fun s : State => s.startUp.config) h
  exact g
theorem clamped_of_exceptShow : a.startUp.clamped = b.startUp.clamped := by
  have g := congrArg (fun s : State => s.startUp.clamped) h
  exact g
theorem faults_of_exceptShow : a.startUp.faults = b.startUp.faults := by
  have g := congrArg (fun s : State => s.startUp.faults) h
  exact g
theorem first_of_exceptShow : a.startUp.first = b.startUp.first := by
  have g := congrArg (fun s : State => s.startUp.first) h
  exact g
theorem channel_of_exceptShow : { a.channel with queue := [], pendingPose := none } =
    { b.channel with queue := [], pendingPose := none } := by
  have g := congrArg State.channel h
  exact g
theorem causes_of_exceptShow : a.governor.causes = b.governor.causes := by
  have g := congrArg (fun s : State => s.governor.causes) h
  exact g
theorem target_of_exceptShow : a.governor.target = b.governor.target := by
  have g := congrArg (fun s : State => s.governor.target) h
  exact g
theorem width_of_exceptShow : a.governor.width = b.governor.width := by
  have g := congrArg (fun s : State => s.governor.width) h
  exact g
theorem nextWidth_of_exceptShow : a.governor.nextWidth = b.governor.nextWidth := by
  have g := congrArg (fun s : State => s.governor.nextWidth) h
  exact g
theorem brake_of_exceptShow : a.governor.brake = b.governor.brake := by
  have g := congrArg (fun s : State => s.governor.brake) h
  exact g
theorem governor_of_exceptShow :
    { a.governor with limits := { a.governor.limits with showHold := 0 } } =
    { b.governor with limits := { b.governor.limits with showHold := 0 } } := by
  have g := congrArg State.governor h
  exact g

/-- Every entry of the limit table but SHOW. -/
theorem limit_of_exceptShow {l : LimitSource} (hl : l ≠ .showHold) :
    a.governor.limits.get l = b.governor.limits.get l := by
  have g := congrArg (fun s : State => s.governor.limits.get l) h
  cases l <;> first | exact g | exact absurd rfl hl

end Fields

end Sys2Proof.Machine
end

