-- ==== Sys2Proof/Laws/MotionFrames.lean ====
section
/-! SUPPORT. What a safety stop does, and what the Restraint Monitor leaves alone. A stop raised or ended is an explicit
change of the governor and the fault record, as far as `exceptShow` sees. `exceptBars` forgets, besides the show, what
judging restraints may change: the Restraint Monitor, its two limit entries and the fault record. -/

namespace Sys2Proof.Machine

/-! ### Safety stops -/

/-- R71: what a raised stop changes, the suspension it may begin apart. -/
theorem exceptShow_raiseStop (c : StopCause) (s : State) :
    (raiseStop c s).exceptShow =
      (withGovernor (latchCause c s.governor) (raiseFault c.fault s)).exceptShow := by
  unfold raiseStop; dsimp only; split <;> simp

/-- R76: what is left of a stop when the causes in `c` stay, the suspension it may end apart. -/
theorem exceptShow_latchOnly (c : CauseSet) (s : State) :
    (latchOnly c s).exceptShow =
      (if s.governor.causes.any && !c.any then
        withGovernor { s.governor with
          causes := c
          limits := s.governor.limits.put 4000 .safety
          brake := if s.governor.brake = .stop then .hold else s.governor.brake } s
      else withGovernor { s.governor with causes := c } s).exceptShow := by
  unfold latchOnly; dsimp only; split
  · simp; rfl
  · rfl

/-! ### The Restraint Monitor -/

def State.exceptBars (s : State) : State :=
  { s.exceptShow with
    restraints := State.reset.restraints
    startUp := { s.exceptShow.startUp with faults := FaultSet.empty, first := none }
    governor := { s.exceptShow.governor with
      limits := { s.exceptShow.governor.limits with restraint := 0, load := 0 } } }

/-- What leaves all but the show alone leaves all but the restraints alone. -/
theorem exceptBars_of_exceptShow {a b : State} (h : a.exceptShow = b.exceptShow) : a.exceptBars = b.exceptBars := by
  unfold State.exceptBars; rw [h]

@[simp] theorem exceptBars_withRestraints (r : RestraintState) (s : State) :
    (withRestraints r s).exceptBars = s.exceptBars := rfl

@[simp] theorem exceptBars_setBar (i : Nat) (b : Bar) (s : State) : (setBar i b s).exceptBars = s.exceptBars := rfl

@[simp] theorem exceptBars_setRestraint (v : Nat) (s : State) :
    (setLimit .restraint v s).exceptBars = s.exceptBars := rfl

@[simp] theorem exceptBars_setLoad (s : State) : (setLoad s).exceptBars = s.exceptBars := rfl

@[simp] theorem exceptBars_raiseFault (k : FaultKind) (s : State) : (raiseFault k s).exceptBars = s.exceptBars := rfl

@[simp] theorem exceptBars_tellRestraintStop (b : Bool) (s : State) :
    (tellRestraintStop b s).exceptBars = s.exceptBars :=
  exceptBars_of_exceptShow (exceptShow_tellRestraintStop b s)

@[simp] theorem exceptBars_startSpiel (s : State) : (startSpiel s).exceptBars = s.exceptBars :=
  exceptBars_of_exceptShow (exceptShow_startVoice _ _ _ _ _ _)

@[simp] theorem exceptBars_evaluate (f : Option (Nat × Nat)) (s : State) : (evaluate f s).exceptBars = s.exceptBars :=
  exceptBars_of_exceptShow (exceptShow_evaluate f s)

@[simp] theorem exceptBars_settleStop (was : Bool) (s : State) : (settleStop was s).exceptBars = s.exceptBars := by
  unfold settleStop; dsimp only; repeat' split
  all_goals simp

@[simp] theorem exceptBars_moveBar (i : Nat) (b : Bar) (s : State) : (moveBar i b s).exceptBars = s.exceptBars := by
  unfold moveBar; dsimp only; split <;> simp

@[simp] theorem exceptBars_judgeBar (s : State) (i : Nat) : (judgeBar s i).exceptBars = s.exceptBars :=
  exceptBars_moveBar _ _ _

@[simp] theorem exceptBars_afterJudging (b s : State) : (afterJudging b s).exceptBars = s.exceptBars := by
  unfold afterJudging; split <;> simp

@[simp] theorem exceptBars_judge (l : List Nat) (s : State) : (judge l s).exceptBars = s.exceptBars := by
  unfold judge; split
  · exact (exceptBars_afterJudging _ _).trans (foldl_keeps _ _ exceptBars_judgeBar _ _)
  · rfl

@[simp] theorem exceptBars_standstillChange (s : State) : (standstillChange s).exceptBars = s.exceptBars := by
  unfold standstillChange; dsimp only; split <;> simp

@[simp] theorem exceptBars_restraintsAtWindow (s : State) : (restraintsAtWindow s).exceptBars = s.exceptBars := by
  simp [restraintsAtWindow]

@[simp] theorem exceptBars_restraintsAtLoad (s : State) : (restraintsAtLoad s).exceptBars = s.exceptBars := by
  simp [restraintsAtLoad]

@[simp] theorem exceptBars_latchDelivered (i : Nat) (l : LatchState) (s : State) :
    (latchDelivered i l s).exceptBars = s.exceptBars := by
  simp [latchDelivered]

@[simp] theorem exceptBars_recordDelivered (p : List Nat) (s : State) :
    (recordDelivered p s).exceptBars = s.exceptBars := by
  unfold recordDelivered; dsimp only
  rw [exceptBars_judge, exceptBars_withRestraints]
  exact foldl_keeps State.exceptBars _ (fun s i => exceptBars_setBar i _ s) _ _

@[simp] theorem exceptBars_clearRestraints (s : State) : (clearRestraints s).exceptBars = s.exceptBars := by
  unfold clearRestraints
  rw [exceptBars_afterJudging]
  exact foldl_keeps State.exceptBars _ (fun s i => exceptBars_setBar i _ s) _ _

/-! ### From `exceptBars` to the fields -/

section Fields

variable {a b : State} (h : a.exceptBars = b.exceptBars)
include h

theorem pending_of_exceptBars : a.pending = b.pending := by
  have g := congrArg State.pending h
  exact g
theorem nowUs_of_exceptBars : a.nowUs = b.nowUs := by
  have g := congrArg State.nowUs h
  exact g
theorem epochUs_of_exceptBars : a.epochUs = b.epochUs := by
  have g := congrArg State.epochUs h
  exact g
theorem path_of_exceptBars : a.path = b.path := by
  have g := congrArg State.path h
  exact g
theorem zone_of_exceptBars : a.zone = b.zone := by
  have g := congrArg State.zone h
  exact g
theorem scanner_of_exceptBars : a.scanner = b.scanner := by
  have g := congrArg State.scanner h
  exact g
theorem steering_of_exceptBars : a.steering = b.steering := by
  have g := congrArg State.steering h
  exact g
theorem run_of_exceptBars : a.startUp.run = b.startUp.run := by
  have g := congrArg (fun s : State => s.startUp.run) h
  exact g
theorem config_of_exceptBars : a.startUp.config = b.startUp.config := by
  have g := congrArg (fun s : State => s.startUp.config) h
  exact g
theorem channel_of_exceptBars :
    { a.channel with queue := [], pendingPose := none } = { b.channel with queue := [], pendingPose := none } := by
  have g := congrArg State.channel h
  exact g
theorem governor_of_exceptBars :
    { a.governor with limits := { a.governor.limits with showHold := 0, restraint := 0, load := 0 } } =
    { b.governor with limits := { b.governor.limits with showHold := 0, restraint := 0, load := 0 } } := by
  have g := congrArg State.governor h
  exact g

end Fields

end Sys2Proof.Machine
end

