-- ==== Sys2Proof/Laws/Events.lean ====
section
/-! SUPPORT. What every command has in common, said once: an event answers one next state; the POSE at once follows only
when the key it reports has changed; and which updates leave that key alone. Then what the shared operations of Ops and
Flags do: offering a frame, raising a fault, raising and ending a safety stop, setting a limit. -/

namespace Sys2Proof.Machine

/-! ### The POSE at once (R45) -/

theorem settle_of_poseKey_eq {before t : State} (h : poseKey before = poseKey t) : settle before t = t :=
  if_pos (.inl h)

theorem settle_of_poseKey_ne {before t : State} (h : poseKey before ≠ poseKey t)
    (h' : (poseKey before).endsUnseen (poseKey t) = false) : settle before t = offerPose t :=
  if_neg (by simp [h, h'])

theorem settle_of_endsUnseen {before t : State} (h : (poseKey before).endsUnseen (poseKey t) = true) :
    settle before t = t :=
  if_pos (.inr h)

/-- Without a safety stop afterwards every change of the key is seen. -/
theorem endsUnseen_of_no_stop {k l : PoseKey} (h : l.safetyStop = false) : k.endsUnseen l = false := by
  simp [PoseKey.endsUnseen, h]

@[simp] theorem settle_self (s : State) : settle s s = s :=
  settle_of_poseKey_eq rfl

/-- An event that leaves the key alone is its effect, after the time that passes. -/
theorem event_of_poseKey_eq {dt : Nat} {f : State → State} {s : State}
    (h : poseKey (advance dt s) = poseKey (f (advance dt s))) : event dt f s = .next (f (advance dt s)) := by
  rw [event, settle_of_poseKey_eq h]

/-- An event without effect only lets time pass. -/
theorem event_unchanged {dt : Nat} {f : State → State} {s : State} (h : f (advance dt s) = advance dt s) :
    event dt f s = .next (advance dt s) := by
  rw [event, h, settle_self]

theorem event_next (dt : Nat) (f : State → State) (s : State) : ∃ t, event dt f s = .next t :=
  ⟨_, rfl⟩

/-- Outside RUN a POSE at once places nothing. -/
theorem settle_outside_run {before t : State} (h : t.startUp.run ≠ .run) : settle before t = t := by
  unfold settle offerPose offerFrame
  simp [h]

/-! ### Updates that leave the key alone -/

@[simp] theorem poseKey_advance (dt : Nat) (s : State) : poseKey (advance dt s) = poseKey s := rfl

@[simp] theorem poseKey_withSound (x : SoundState) (s : State) : poseKey (withSound x s) = poseKey s := rfl

@[simp] theorem poseKey_withContent (x : ContentState) (s : State) : poseKey (withContent x s) = poseKey s := rfl

@[simp] theorem poseKey_withCues (x : CueState) (s : State) : poseKey (withCues x s) = poseKey s := rfl

@[simp] theorem poseKey_withScanner (x : ScannerState) (s : State) : poseKey (withScanner x s) = poseKey s := rfl

@[simp] theorem poseKey_withSteering (x : SteeringState) (s : State) : poseKey (withSteering x s) = poseKey s := rfl

@[simp] theorem poseKey_withChannel (x : ChannelState) (s : State) : poseKey (withChannel x s) = poseKey s := rfl

@[simp] theorem poseKey_withStartUp (x : StartUpState) (s : State) : poseKey (withStartUp x s) = poseKey s := rfl

@[simp] theorem poseKey_setLimit (k : LimitSource) (v : Nat) (s : State) : poseKey (setLimit k v s) = poseKey s := rfl

@[simp] theorem poseKey_raiseFault (k : FaultKind) (s : State) : poseKey (raiseFault k s) = poseKey s := rfl

@[simp] theorem poseKey_withFaults (x : FaultSet) (s : State) : poseKey (withFaults x s) = poseKey s := rfl

@[simp] theorem poseKey_mapCounters (f : Counters → Counters) (s : State) : poseKey (s.mapCounters f) = poseKey s := rfl

@[simp] theorem poseKey_setChain (high : Bool) (s : State) : poseKey (setChain high s) = poseKey s := rfl

/-- A change of the Motion Governor that keeps the causes keeps the key. -/
theorem poseKey_withGovernor {g : GovernorState} {s : State} (h : g.causes = s.governor.causes) :
    poseKey (withGovernor g s) = poseKey s := by
  simp [poseKey, State.anyBarFault, State.standing, withGovernor, h]

theorem poseKey_of_exceptShow {s t : State} (h : s.exceptShow = t.exceptShow) : poseKey s = poseKey t := by
  simp only [poseKey, State.anyBarFault, State.standing, zone_of_exceptShow h, path_of_exceptShow h,
    restraints_of_exceptShow h, causes_of_exceptShow h]

/-! ### Faults and limits -/

theorem raiseFault_first (k : FaultKind) (s : State) :
    (raiseFault k s).startUp.first =
      if s.startUp.faults.isEmpty = true then some (k, s.rideTime) else s.startUp.first := rfl

theorem FaultSet.isEmpty_iff (f : FaultSet) : f.isEmpty = true ↔ f = FaultSet.empty := by
  cases f
  simp [FaultSet.isEmpty, FaultSet.empty, and_assoc]

theorem FaultSet.has_put (f : FaultSet) (b : Bool) (k l : FaultKind) :
    (f.put b k).has l = if k = l then b else f.has l := by
  cases k <;> cases l <;> rfl

theorem CauseSet.has_put (c : CauseSet) (b : Bool) (k l : StopCause) :
    (c.put b k).has l = if k = l then b else c.has l := by
  cases k <;> cases l <;> rfl

theorem LimitTable.get_put (t : LimitTable) (v : Nat) (k l : LimitSource) :
    (t.put v k).get l = if k = l then v else t.get l := by
  cases k <;> cases l <;> rfl

theorem CauseSet.any_put_true (c : CauseSet) (k : StopCause) : (c.put true k).any = true := by
  cases k <;> simp [CauseSet.put, CauseSet.any]

/-! ### The transmit queue (R26 to R28) -/

/-- Whatever is offered, only the queue, the pending POSE and the counters can change. -/
theorem offerFrame_cases (dest : Nat) (body : TxBody) (s : State) :
    ∃ q p n, offerFrame dest body s = { s with
      channel := { s.channel with queue := q, pendingPose := p }
      startUp := { s.startUp with counters := { s.startUp.counters with txDropped := n } } } := by
  have place : ∃ q p n, placeFrame dest body s = { s with
      channel := { s.channel with queue := q, pendingPose := p }
      startUp := { s.startUp with counters := { s.startUp.counters with txDropped := n } } } := by
    unfold placeFrame
    split
    · exact ⟨_, _, _, rfl⟩
    · dsimp only
      split <;> exact ⟨_, _, _, rfl⟩
  unfold offerFrame
  split
  · split
    · split
      · split <;> exact ⟨_, _, _, rfl⟩
      · exact place
    · exact place
  · exact ⟨_, _, _, rfl⟩

/-- Nothing is placed outside RUN. -/
theorem offerFrame_outside_run {dest : Nat} {body : TxBody} {s : State} (h : s.startUp.run ≠ .run) :
    offerFrame dest body s = s :=
  if_neg h

/-! ### Safety stops (R71, R76) -/

theorem governor_of_exceptSound {a b : State} (h : a.exceptSound = b.exceptSound) : a.governor = b.governor := by
  simpa [State.exceptSound] using congrArg State.governor h

theorem beginSuspension_governor (s : State) : (beginSuspension s).governor = s.governor := by
  have h : (takeFaultLevels (pauseVoices s)).governor = (pauseVoices s).governor := rfl
  rw [beginSuspension, h]
  exact governor_of_exceptSound (exceptSound_pauseVoices s)

/-- A suspension that begins leaves the Motion Governor alone: it evaluates no record. -/
theorem tellSafetyStop_true_governor (s : State) : (tellSafetyStop true s).governor = s.governor := by
  have h : ({ s.cues with safetyStop := true } : CueState).isSuspended = true := by simp [CueState.isSuspended]
  unfold tellSafetyStop tellStops
  rw [if_pos h]
  split
  · rfl
  · rw [beginSuspension_governor]
    rfl

/-- R71: what a raised stop makes of the Motion Governor. -/
theorem raiseStop_governor (c : StopCause) (s : State) : (raiseStop c s).governor = latchCause c s.governor := by
  unfold raiseStop
  dsimp only
  split
  · rfl
  · exact tellSafetyStop_true_governor _

end Sys2Proof.Machine
end

