-- ==== Sys2Proof/Laws/PerInstr.lean ====
section
/-! SUPPORT. What holds of every command as syntax, command by command: the time that passes before it is free. Giving a
command another delay keeps it well-formed or ill-formed as it was. -/

namespace Sys2Proof

/-- The command with another time before it. -/
def Instr.withDelay (dt : Nat) : Instr → Instr
  | .powerOnReset _ => .powerOnReset dt
  | .configBlockLoaded _ bytes => .configBlockLoaded dt bytes
  | .contentCheckDone _ header clipDirectory cueDirectory => .contentCheckDone dt header clipDirectory cueDirectory
  | .encEdge _ => .encEdge dt
  | .captureOverflow _ => .captureOverflow dt
  | .tagRecord _ span bytes => .tagRecord dt span bytes
  | .tagIdleTimeout _ span => .tagIdleTimeout dt span
  | .frameDiscarded _ bytes => .frameDiscarded dt bytes
  | .duplicateId _ bytes => .duplicateId dt bytes
  | .poseReceived _ bytes => .poseReceived dt bytes
  | .cueReceived _ bytes => .cueReceived dt bytes
  | .syncReceived _ bytes => .syncReceived dt bytes
  | .checkReceived _ bytes => .checkReceived dt bytes
  | .verdictReceived _ bytes => .verdictReceived dt bytes
  | .dispatchReceived _ bytes => .dispatchReceived dt bytes
  | .clearFaults _ bytes => .clearFaults dt bytes
  | .clearPeer _ bytes => .clearPeer dt bytes
  | .holdall _ bytes => .holdall dt bytes
  | .resume _ bytes => .resume dt bytes
  | .query _ bytes => .query dt bytes
  | .statusReceived _ bytes => .statusReceived dt bytes
  | .restart _ bytes => .restart dt bytes
  | .attemptStart _ => .attemptStart dt
  | .attemptSuccess _ => .attemptSuccess dt
  | .collision _ => .collision dt
  | .retryWaitExpiry _ => .retryWaitExpiry dt
  | .deafTimerExpiry _ => .deafTimerExpiry dt
  | .announceTimerExpiry _ => .announceTimerExpiry dt
  | .neighbourAgeing _ peer => .neighbourAgeing dt peer
  | .claimWindowExpiry _ => .claimWindowExpiry dt
  | .drivePeriod _ => .drivePeriod dt
  | .standstillTimerExpiry _ => .standstillTimerExpiry dt
  | .overspeedTimerExpiry _ => .overspeedTimerExpiry dt
  | .chainOpen _ => .chainOpen dt
  | .chainClose _ => .chainClose dt
  | .restartLineRequest _ => .restartLineRequest dt
  | .restartLineReady _ => .restartLineReady dt
  | .restraintScanTimerExpiry _ => .restraintScanTimerExpiry dt
  | .scanEnd _ channels => .scanEnd dt channels
  | .latchEdge _ latch high => .latchEdge dt latch high
  | .latchSettleExpiry _ latch => .latchSettleExpiry dt latch
  | .servoFrameStart _ => .servoFrameStart dt
  | .guideLossExpiry _ => .guideLossExpiry dt
  | .suspectTimerExpiry _ bar => .suspectTimerExpiry dt bar
  | .spielRepeatExpiry _ => .spielRepeatExpiry dt
  | .readComplete _ data => .readComplete dt data
  | .sceneTimeReached _ scene => .sceneTimeReached dt scene
  | .sceneClockExpiry _ scene => .sceneClockExpiry dt scene
  | .showHoldExpiry _ => .showHoldExpiry dt
  | .effectTimerExpiry _ line => .effectTimerExpiry dt line
  | .outputPeriod _ => .outputPeriod dt
  | .fadeEnd _ voice => .fadeEnd dt voice
  | .lockedVoiceTick _ voice => .lockedVoiceTick dt voice
  | .idleTimerExpiry _ => .idleTimerExpiry dt
  | .wakeTimerExpiry _ => .wakeTimerExpiry dt
  | .tagCharacterError _ span => .tagCharacterError dt span
  | .tagExcessCharacters _ => .tagExcessCharacters dt
  | .cdRise _ => .cdRise dt
  | .cdFall _ => .cdFall dt
  | .restartLineEdge _ high => .restartLineEdge dt high

end Sys2Proof

open Sys2Proof

/-- Any delay may come before the command: it becomes the command's delay and does not enter its well-formedness. -/
def Sys2Proof.Laws.DelayFree.Statement (i : Instr) : Prop :=
  ∀ dt, (i.withDelay dt).delay = dt ∧ (i.withDelay dt).wellFormed = i.wellFormed

theorem Sys2Proof.Laws.DelayFree.powerOnReset (dt : Nat) :
    Sys2Proof.Laws.DelayFree.Statement (.powerOnReset dt) :=
  fun _ => ⟨rfl, rfl⟩

theorem Sys2Proof.Laws.DelayFree.configBlockLoaded (dt : Nat) (bytes : List Byte) :
    Sys2Proof.Laws.DelayFree.Statement (.configBlockLoaded dt bytes) :=
  fun _ => ⟨rfl, rfl⟩

theorem Sys2Proof.Laws.DelayFree.contentCheckDone (dt : Nat) (header clipDirectory cueDirectory : List Byte) :
    Sys2Proof.Laws.DelayFree.Statement (.contentCheckDone dt header clipDirectory cueDirectory) :=
  fun _ => ⟨rfl, rfl⟩

theorem Sys2Proof.Laws.DelayFree.encEdge (dt : Nat) :
    Sys2Proof.Laws.DelayFree.Statement (.encEdge dt) :=
  fun _ => ⟨rfl, rfl⟩

theorem Sys2Proof.Laws.DelayFree.captureOverflow (dt : Nat) :
    Sys2Proof.Laws.DelayFree.Statement (.captureOverflow dt) :=
  fun _ => ⟨rfl, rfl⟩

theorem Sys2Proof.Laws.DelayFree.tagRecord (dt span : Nat) (bytes : Vector Byte 20) :
    Sys2Proof.Laws.DelayFree.Statement (.tagRecord dt span bytes) :=
  fun _ => ⟨rfl, rfl⟩

theorem Sys2Proof.Laws.DelayFree.tagIdleTimeout (dt span : Nat) :
    Sys2Proof.Laws.DelayFree.Statement (.tagIdleTimeout dt span) :=
  fun _ => ⟨rfl, rfl⟩

theorem Sys2Proof.Laws.DelayFree.frameDiscarded (dt : Nat) (bytes : List Byte) :
    Sys2Proof.Laws.DelayFree.Statement (.frameDiscarded dt bytes) :=
  fun _ => ⟨rfl, rfl⟩

theorem Sys2Proof.Laws.DelayFree.duplicateId (dt : Nat) (bytes : List Byte) :
    Sys2Proof.Laws.DelayFree.Statement (.duplicateId dt bytes) :=
  fun _ => ⟨rfl, rfl⟩

theorem Sys2Proof.Laws.DelayFree.poseReceived (dt : Nat) (bytes : List Byte) :
    Sys2Proof.Laws.DelayFree.Statement (.poseReceived dt bytes) :=
  fun _ => ⟨rfl, rfl⟩

theorem Sys2Proof.Laws.DelayFree.cueReceived (dt : Nat) (bytes : List Byte) :
    Sys2Proof.Laws.DelayFree.Statement (.cueReceived dt bytes) :=
  fun _ => ⟨rfl, rfl⟩

theorem Sys2Proof.Laws.DelayFree.syncReceived (dt : Nat) (bytes : List Byte) :
    Sys2Proof.Laws.DelayFree.Statement (.syncReceived dt bytes) :=
  fun _ => ⟨rfl, rfl⟩

theorem Sys2Proof.Laws.DelayFree.checkReceived (dt : Nat) (bytes : List Byte) :
    Sys2Proof.Laws.DelayFree.Statement (.checkReceived dt bytes) :=
  fun _ => ⟨rfl, rfl⟩

theorem Sys2Proof.Laws.DelayFree.verdictReceived (dt : Nat) (bytes : List Byte) :
    Sys2Proof.Laws.DelayFree.Statement (.verdictReceived dt bytes) :=
  fun _ => ⟨rfl, rfl⟩

theorem Sys2Proof.Laws.DelayFree.dispatchReceived (dt : Nat) (bytes : List Byte) :
    Sys2Proof.Laws.DelayFree.Statement (.dispatchReceived dt bytes) :=
  fun _ => ⟨rfl, rfl⟩

theorem Sys2Proof.Laws.DelayFree.clearFaults (dt : Nat) (bytes : List Byte) :
    Sys2Proof.Laws.DelayFree.Statement (.clearFaults dt bytes) :=
  fun _ => ⟨rfl, rfl⟩

theorem Sys2Proof.Laws.DelayFree.clearPeer (dt : Nat) (bytes : List Byte) :
    Sys2Proof.Laws.DelayFree.Statement (.clearPeer dt bytes) :=
  fun _ => ⟨rfl, rfl⟩

theorem Sys2Proof.Laws.DelayFree.holdall (dt : Nat) (bytes : List Byte) :
    Sys2Proof.Laws.DelayFree.Statement (.holdall dt bytes) :=
  fun _ => ⟨rfl, rfl⟩

theorem Sys2Proof.Laws.DelayFree.resume (dt : Nat) (bytes : List Byte) :
    Sys2Proof.Laws.DelayFree.Statement (.resume dt bytes) :=
  fun _ => ⟨rfl, rfl⟩

theorem Sys2Proof.Laws.DelayFree.query (dt : Nat) (bytes : List Byte) :
    Sys2Proof.Laws.DelayFree.Statement (.query dt bytes) :=
  fun _ => ⟨rfl, rfl⟩

theorem Sys2Proof.Laws.DelayFree.statusReceived (dt : Nat) (bytes : List Byte) :
    Sys2Proof.Laws.DelayFree.Statement (.statusReceived dt bytes) :=
  fun _ => ⟨rfl, rfl⟩

theorem Sys2Proof.Laws.DelayFree.restart (dt : Nat) (bytes : List Byte) :
    Sys2Proof.Laws.DelayFree.Statement (.restart dt bytes) :=
  fun _ => ⟨rfl, rfl⟩

theorem Sys2Proof.Laws.DelayFree.attemptStart (dt : Nat) :
    Sys2Proof.Laws.DelayFree.Statement (.attemptStart dt) :=
  fun _ => ⟨rfl, rfl⟩

theorem Sys2Proof.Laws.DelayFree.attemptSuccess (dt : Nat) :
    Sys2Proof.Laws.DelayFree.Statement (.attemptSuccess dt) :=
  fun _ => ⟨rfl, rfl⟩

theorem Sys2Proof.Laws.DelayFree.collision (dt : Nat) :
    Sys2Proof.Laws.DelayFree.Statement (.collision dt) :=
  fun _ => ⟨rfl, rfl⟩

theorem Sys2Proof.Laws.DelayFree.retryWaitExpiry (dt : Nat) :
    Sys2Proof.Laws.DelayFree.Statement (.retryWaitExpiry dt) :=
  fun _ => ⟨rfl, rfl⟩

theorem Sys2Proof.Laws.DelayFree.deafTimerExpiry (dt : Nat) :
    Sys2Proof.Laws.DelayFree.Statement (.deafTimerExpiry dt) :=
  fun _ => ⟨rfl, rfl⟩

theorem Sys2Proof.Laws.DelayFree.announceTimerExpiry (dt : Nat) :
    Sys2Proof.Laws.DelayFree.Statement (.announceTimerExpiry dt) :=
  fun _ => ⟨rfl, rfl⟩

theorem Sys2Proof.Laws.DelayFree.neighbourAgeing (dt peer : Nat) :
    Sys2Proof.Laws.DelayFree.Statement (.neighbourAgeing dt peer) :=
  fun _ => ⟨rfl, rfl⟩

theorem Sys2Proof.Laws.DelayFree.claimWindowExpiry (dt : Nat) :
    Sys2Proof.Laws.DelayFree.Statement (.claimWindowExpiry dt) :=
  fun _ => ⟨rfl, rfl⟩

theorem Sys2Proof.Laws.DelayFree.drivePeriod (dt : Nat) :
    Sys2Proof.Laws.DelayFree.Statement (.drivePeriod dt) :=
  fun _ => ⟨rfl, rfl⟩

theorem Sys2Proof.Laws.DelayFree.standstillTimerExpiry (dt : Nat) :
    Sys2Proof.Laws.DelayFree.Statement (.standstillTimerExpiry dt) :=
  fun _ => ⟨rfl, rfl⟩

theorem Sys2Proof.Laws.DelayFree.overspeedTimerExpiry (dt : Nat) :
    Sys2Proof.Laws.DelayFree.Statement (.overspeedTimerExpiry dt) :=
  fun _ => ⟨rfl, rfl⟩

theorem Sys2Proof.Laws.DelayFree.chainOpen (dt : Nat) :
    Sys2Proof.Laws.DelayFree.Statement (.chainOpen dt) :=
  fun _ => ⟨rfl, rfl⟩

theorem Sys2Proof.Laws.DelayFree.chainClose (dt : Nat) :
    Sys2Proof.Laws.DelayFree.Statement (.chainClose dt) :=
  fun _ => ⟨rfl, rfl⟩

theorem Sys2Proof.Laws.DelayFree.restartLineRequest (dt : Nat) :
    Sys2Proof.Laws.DelayFree.Statement (.restartLineRequest dt) :=
  fun _ => ⟨rfl, rfl⟩

theorem Sys2Proof.Laws.DelayFree.restartLineReady (dt : Nat) :
    Sys2Proof.Laws.DelayFree.Statement (.restartLineReady dt) :=
  fun _ => ⟨rfl, rfl⟩

theorem Sys2Proof.Laws.DelayFree.restraintScanTimerExpiry (dt : Nat) :
    Sys2Proof.Laws.DelayFree.Statement (.restraintScanTimerExpiry dt) :=
  fun _ => ⟨rfl, rfl⟩

theorem Sys2Proof.Laws.DelayFree.scanEnd (dt : Nat) (channels : Vector Conversion 10) :
    Sys2Proof.Laws.DelayFree.Statement (.scanEnd dt channels) :=
  fun _ => ⟨rfl, rfl⟩

theorem Sys2Proof.Laws.DelayFree.latchEdge (dt latch : Nat) (high : Bool) :
    Sys2Proof.Laws.DelayFree.Statement (.latchEdge dt latch high) :=
  fun _ => ⟨rfl, rfl⟩

theorem Sys2Proof.Laws.DelayFree.latchSettleExpiry (dt latch : Nat) :
    Sys2Proof.Laws.DelayFree.Statement (.latchSettleExpiry dt latch) :=
  fun _ => ⟨rfl, rfl⟩

theorem Sys2Proof.Laws.DelayFree.servoFrameStart (dt : Nat) :
    Sys2Proof.Laws.DelayFree.Statement (.servoFrameStart dt) :=
  fun _ => ⟨rfl, rfl⟩

theorem Sys2Proof.Laws.DelayFree.guideLossExpiry (dt : Nat) :
    Sys2Proof.Laws.DelayFree.Statement (.guideLossExpiry dt) :=
  fun _ => ⟨rfl, rfl⟩

theorem Sys2Proof.Laws.DelayFree.suspectTimerExpiry (dt bar : Nat) :
    Sys2Proof.Laws.DelayFree.Statement (.suspectTimerExpiry dt bar) :=
  fun _ => ⟨rfl, rfl⟩

theorem Sys2Proof.Laws.DelayFree.spielRepeatExpiry (dt : Nat) :
    Sys2Proof.Laws.DelayFree.Statement (.spielRepeatExpiry dt) :=
  fun _ => ⟨rfl, rfl⟩

theorem Sys2Proof.Laws.DelayFree.readComplete (dt : Nat) (data : BlockData) :
    Sys2Proof.Laws.DelayFree.Statement (.readComplete dt data) :=
  fun _ => ⟨rfl, rfl⟩

theorem Sys2Proof.Laws.DelayFree.sceneTimeReached (dt scene : Nat) :
    Sys2Proof.Laws.DelayFree.Statement (.sceneTimeReached dt scene) :=
  fun _ => ⟨rfl, rfl⟩

theorem Sys2Proof.Laws.DelayFree.sceneClockExpiry (dt scene : Nat) :
    Sys2Proof.Laws.DelayFree.Statement (.sceneClockExpiry dt scene) :=
  fun _ => ⟨rfl, rfl⟩

theorem Sys2Proof.Laws.DelayFree.showHoldExpiry (dt : Nat) :
    Sys2Proof.Laws.DelayFree.Statement (.showHoldExpiry dt) :=
  fun _ => ⟨rfl, rfl⟩

theorem Sys2Proof.Laws.DelayFree.effectTimerExpiry (dt line : Nat) :
    Sys2Proof.Laws.DelayFree.Statement (.effectTimerExpiry dt line) :=
  fun _ => ⟨rfl, rfl⟩

theorem Sys2Proof.Laws.DelayFree.outputPeriod (dt : Nat) :
    Sys2Proof.Laws.DelayFree.Statement (.outputPeriod dt) :=
  fun _ => ⟨rfl, rfl⟩

theorem Sys2Proof.Laws.DelayFree.fadeEnd (dt voice : Nat) :
    Sys2Proof.Laws.DelayFree.Statement (.fadeEnd dt voice) :=
  fun _ => ⟨rfl, rfl⟩

theorem Sys2Proof.Laws.DelayFree.lockedVoiceTick (dt voice : Nat) :
    Sys2Proof.Laws.DelayFree.Statement (.lockedVoiceTick dt voice) :=
  fun _ => ⟨rfl, rfl⟩

theorem Sys2Proof.Laws.DelayFree.idleTimerExpiry (dt : Nat) :
    Sys2Proof.Laws.DelayFree.Statement (.idleTimerExpiry dt) :=
  fun _ => ⟨rfl, rfl⟩

theorem Sys2Proof.Laws.DelayFree.wakeTimerExpiry (dt : Nat) :
    Sys2Proof.Laws.DelayFree.Statement (.wakeTimerExpiry dt) :=
  fun _ => ⟨rfl, rfl⟩

theorem Sys2Proof.Laws.DelayFree.tagCharacterError (dt span : Nat) :
    Sys2Proof.Laws.DelayFree.Statement (.tagCharacterError dt span) :=
  fun _ => ⟨rfl, rfl⟩

theorem Sys2Proof.Laws.DelayFree.tagExcessCharacters (dt : Nat) :
    Sys2Proof.Laws.DelayFree.Statement (.tagExcessCharacters dt) :=
  fun _ => ⟨rfl, rfl⟩

theorem Sys2Proof.Laws.DelayFree.cdRise (dt : Nat) :
    Sys2Proof.Laws.DelayFree.Statement (.cdRise dt) :=
  fun _ => ⟨rfl, rfl⟩

theorem Sys2Proof.Laws.DelayFree.cdFall (dt : Nat) :
    Sys2Proof.Laws.DelayFree.Statement (.cdFall dt) :=
  fun _ => ⟨rfl, rfl⟩

theorem Sys2Proof.Laws.DelayFree.restartLineEdge (dt : Nat) (high : Bool) :
    Sys2Proof.Laws.DelayFree.Statement (.restartLineEdge dt high) :=
  fun _ => ⟨rfl, rfl⟩
end

