-- ==== Sys2Proof/Tests/Slice0.lean ====
section
/-! SUPPORT. Small tests: what WellFormed refuses, worked examples of the spec (each test names its rule), one step at a
time, and for every obligation with hypotheses a concrete part and operands that meet them, clause by clause. -/

namespace Sys2Proof.Tests

set_option Elab.async false

open Sys2Proof Sys2Proof.Machine

/-! ### Helpers -/

/-- A configuration image with the defaults of R161 where there are any, vehicle 5, two restraints, a pitch of 750 µm. -/
def config : ConfigImage where
  configId := 1
  vehicleId := 5
  restraintCount := 2
  vehicleLength := 3000
  stopMargin := 300
  reactionTime := 200
  serviceDecel := 800
  acceleration := 500
  crawlSpeed := 150
  fullScale := 2500
  overspeedMargin := 150
  announcePeriod := 100
  claimWindow := 3
  lossTime := 2048
  missTolerance := 500
  encoderPitch := 750
  encoderDivider := 1
  restraintScanPeriod := 100
  suspectTime := 300
  lockThreshold := 2000
  latchPolarity := 0xFF#8
  guideMinimum := 600
  guideRange := 60
  guideLossTime := 500
  steeringCentre := 1500
  steeringMinimum := 1000
  steeringMaximum := 2000
  kp := 8
  kd := 4
  slew := 200
  masterGain := 128
  duck := 64
  spielClip := 3
  spielRepeat := 10
  idleValue := 10
  idleScale := 1024
  wakeValue := 5
  wakeScale := 10
  effectFaults := 0#8

def loading : State :=
  { State.reset with startUp := { State.reset.startUp with config := some config } }

/-- A part in RUN, 5 s after power-on, with good content and no path window, while CD is high and a frame is coming in. -/
def running : State :=
  { loading with
    nowUs := 5000000
    channel := { loading.channel with cdLowSince := none, receiver := .assembling }
    startUp := { loading.startUp with run := .run }
    governor := { loading.governor with limits := { LimitTable.reset with safety := 4000 } }
    content := { loading.content with check := .pass } }

def inhibited : State :=
  { running with startUp := { running.startUp with run := .inhibit } }

def item (base span : Nat) : ZoneItem := ⟨base, span⟩

/-- The window of the example of R15: cap here 1,200, cap next 300, the boundary mark at 12,000. -/
def window : PathWindow where
  here := item 40 2
  next := some ⟨item 44 1, 12000⟩
  capHere := 1200
  capNext := 300
  load := false
  scene := 2
  expected := some 12500
  confirmed := true

/-- A part in TRACKING at 11,700 mm and 400 mm/s, its here item held. -/
def tracking : State :=
  { running with
    path := { running.path with
      odometer := 11700, speed := 400, pos := .tracking, window := some window, lastTag := some 7 }
    zone := { running.zone with hold := [⟨item 40 2, none⟩] }
    governor := { running.governor with limits := { running.governor.limits with tag := 4000, ride := 4000 } } }

def withWindow (w : PathWindow) (s : State) : State :=
  { s with path := { s.path with window := some w } }

def stopped (c : CauseSet) (s : State) : State :=
  { s with
    governor := { s.governor with causes := c, brake := .stop, limits := { s.governor.limits with safety := 0, ride := 0 } }
    cues := { s.cues with safetyStop := true } }

/-- The next state of a command. -/
def after (c : Instr) (s : State) : State :=
  match exec c s with
  | .next t => t
  | .fault _ => s
  | .refused _ => s

/-- A frame with a body given as numbers, its CRC as R20 lays it down. -/
def frame (source dest kind seq : Nat) (body : List Nat) : List Byte :=
  let covered := [byteOf source, byteOf dest, byteOf kind, byteOf seq, byteOf body.length] ++ body.map byteOf
  preamble :: covered ++ bytesOf16 (crc16 covered).toNat

def raw (source dest kind seq : Nat) (body : List Nat) : RawFrame :=
  ⟨source, dest, kind, seq, body.map byteOf⟩

/-- A tag record of twenty bytes, its check byte as R5 lays it down: tag `number`, here item `here`, next item `next`, the
boundary and the next tag at their distances, caps 120 and 30 in units of 10 mm/s, no cue marks. -/
def tag (number here next boundary nextTag last : Nat) : Vector Byte 20 :=
  let bs := bytesOf16 number ++ bytesOf16 here ++ bytesOf16 next ++ bytesOf16 boundary ++ [byteOf 120, byteOf 30] ++
    [0#8, 0#8, 0#8, 0#8, 0#8, 0#8] ++ bytesOf16 nextTag ++ [byteOf last]
  Vector.ofFn fun i : Fin 20 =>
    if i.val < 19 then bs.getD i.val 0#8 else byteOf (255 - (bs.map BitVec.toNat).sum % 256)

/-! ### What WellFormed refuses -/

theorem test_wellFormed_lengths :
    (Instr.configBlockLoaded 0 (List.replicate 65 0#8)).wellFormed = false ∧
    (Instr.contentCheckDone 0 (List.replicate 513 0#8) [] []).wellFormed = false ∧
    (Instr.contentCheckDone 0 [] (List.replicate 4097 0#8) []).wellFormed = false ∧
    (Instr.frameDiscarded 0 (List.replicate 49 0#8)).wellFormed = false ∧
    (Instr.duplicateId 0 (List.replicate 49 0#8)).wellFormed = false ∧
    (Instr.duplicateId 0 [0xA7#8]).wellFormed = false := by decide +kernel

theorem test_wellFormed_cue_directory_length :
    (Instr.contentCheckDone 0 [] [] (List.replicate 8161 0#8)).wellFormed = false := by
  simp only [Instr.wellFormed, List.length_replicate]
  decide

theorem test_wellFormed_character_spans :
    (Instr.tagRecord 0 38000 (tag 1 0 0 0 0 0)).wellFormed = false ∧
    (Instr.tagIdleTimeout 0 36000).wellFormed = false ∧
    (Instr.tagCharacterError 0 38000).wellFormed = false := by decide +kernel

/-- A HOLDALL frame is no other frame's, and a DISPATCH frame is no HOLDALL. -/
theorem test_wellFormed_frame_kinds :
    ([Instr.poseReceived, .cueReceived, .syncReceived, .checkReceived, .verdictReceived, .dispatchReceived, .clearFaults,
      .clearPeer, .resume, .query, .statusReceived, .restart].all fun c =>
        !(c 0 (frame 48 0 8 1 [])).wellFormed) = true ∧
    (Instr.holdall 0 (frame 48 5 6 1 [])).wellFormed = false ∧
    (Instr.holdall 0 (frame 48 0 8 1 [])).wellFormed = true := by decide +kernel

theorem test_wellFormed_numbers :
    ((List.map (fun n => Instr.latchEdge 0 n true) [0, 9] ++ List.map (Instr.latchSettleExpiry 0) [0, 9] ++
      List.map (Instr.suspectTimerExpiry 0) [0, 9] ++ List.map (Instr.effectTimerExpiry 0) [0, 9] ++
      List.map (Instr.sceneTimeReached 0) [0, 16] ++ List.map (Instr.sceneClockExpiry 0) [0, 16] ++
      List.map (Instr.fadeEnd 0) [0, 4] ++ List.map (Instr.lockedVoiceTick 0) [0, 4] ++
      List.map (Instr.neighbourAgeing 0) [0, 32]).all fun c => !c.wellFormed) = true := by decide

/-- The table gives no row any bits, so no word spells a command. -/
theorem test_no_word_spells_a_command : decodeTableWord 32 0xDEADBEEF = none ∧ decodeTableWord 8 0 = none := by decide

/-! ### Checks and layouts -/

/-- The check values published for the two CRCs that R20 and R120 describe (CRC-16 with start FFFF, CRC-32). -/
theorem test_crc_check_values :
    crc16 [0x31#8, 0x32#8, 0x33#8, 0x34#8, 0x35#8, 0x36#8, 0x37#8, 0x38#8, 0x39#8] = 0x29B1#16 ∧
    crc32 [0x31#8, 0x32#8, 0x33#8, 0x34#8, 0x35#8, 0x36#8, 0x37#8, 0x38#8, 0x39#8] = 0xCBF43926#32 := by decide +kernel

/-- R36: zone 214/2 is taken as 212/2; 40/2 covers 42/1 but not 44/1; 40/1 and 43/0 do not cover 42/1. -/
theorem test_zone_items :
    (item 214 2).align = item 212 2 ∧ (item 40 2).covers (item 42 1) = true ∧
    (item 40 2).covers (item 44 1) = false ∧ (item 40 2).covers (item 40 3) = false ∧
    (item 40 1).covers (item 42 1) = false ∧ (item 43 0).covers (item 42 1) = false ∧
    (item 43 0).conflicts (item 42 1) = true := by decide

/-- A POSE body of the Formats section, byte by byte: here item 40/2 (0828 hex), held item 40/2, no claim. -/
theorem test_pose_body : parseBody 1 [0x08#8, 0x28#8, 0x01#8, 0x2C#8, 0x01#8, 0x90#8, 0x00#8, 0x64#8, 0x08#8, 0x06#8,
      0x01#8, 0x08#8, 0x28#8] =
    some (.pose ⟨some (item 40 2), 300, 400, 100, false, false, false, true, false, 6, [item 40 2], none⟩) := by
  decide +kernel

/-! ### Position, limits and drive -/

/-- R1: with a pitch of 750 µm successive edges leave 750, 500, 250 and 0 and advance by 0, 1, 1 and 1 mm. -/
theorem test_encoder_edges :
    let p := travelled 750 (travelled 750 running.path)
    let q := travelled 750 (travelled 750 p)
    (p.odometer, p.remainder) = (1, 500) ∧ (q.odometer, q.remainder) = (3, 0) := by decide +kernel

/-- R2: 500 µm, n = 2 and 2,000 µs give 1,000 mm/s; 2000 µm, n = 0 and 400 µs give 5,000, taken as 4,000. -/
theorem test_captured_speed : capturedSpeed 500 2 2000 = 1000 ∧ capturedSpeed 2000 0 400 = 4000 ∧
    capturedSpeed 100 0 0 = 4000 := by decide +kernel

/-- R15: CAP is 664 at 11,700 mm and 400 mm/s, and 300 at 11,950 mm and 300 mm/s. -/
theorem test_cap_entry :
    capEntry tracking = 664 ∧
    capEntry { tracking with path := { tracking.path with odometer := 11950, speed := 300 } } = 300 := by decide +kernel

/-- R117: standing 400 mm before the boundary, with a margin of 300 mm, LOAD is 400. -/
theorem test_load_entry : loadEntry (withWindow { window with load := true }
    { tracking with path := { tracking.path with odometer := 11600, speed := 0 } }) = 400 := by decide +kernel

/-- R68: a target of 536 gives 214 µs, and 3,000 gives 1,000 µs, at a full-scale speed of 2,500 mm/s. -/
theorem test_drive_width : widthFor running 536 = 214 ∧ widthFor running 3000 = 1000 := by decide +kernel

/-- R66: from a remainder of 0 the down-steps at 800 mm/s² are 0 and then 1, with remainders 800 and 600. -/
theorem test_down_steps :
    let s : State := { tracking with governor := { tracking.governor with
      limits := { tracking.governor.limits with ride := 0 }, target := 100, rampDirection := .down } }
    let t := evaluateTarget s
    let u := evaluateTarget t
    (t.governor.target, t.governor.rampRemainder) = (100, 800) ∧
    (u.governor.target, u.governor.rampRemainder) = (99, 600) := by decide +kernel

/-- R67: CAP fallen from 4000 to 664 under a target of 1,200 is a breach. -/
theorem test_curve_breach :
    let t := after (.drivePeriod 0) { tracking with governor := { tracking.governor with
      limits := { tracking.governor.limits with cap := 664 }, target := 1200, brake := .off } }
    t.governor.target = 664 ∧ t.startUp.counters.curveBreaches = 1 ∧ t.governor.brake = .off := by decide +kernel

/-! ### Channel -/

def poseFrame : TxFrame := ⟨0, .pose (buildPose running), 0, none, .queued⟩
def verdictFrame : TxFrame := ⟨48, .verdict true [.locked, .locked], 0, none, .queued⟩
def cueFrame : TxFrame := ⟨0, .cue ⟨9, none⟩, 0, none, .queued⟩

def queued (q : List TxFrame) (s : State) : State :=
  { s with channel := { s.channel with queue := q } }

/-- R29: for vehicle 5 a POSE waits 300 µs, a STATUS 400 and a CUE 500; for vehicle 21 the waits are the same. -/
theorem test_access_waits :
    accessWait running poseFrame = 300 ∧ accessWait running verdictFrame = 400 ∧ accessWait running cueFrame = 500 ∧
    accessWait { running with startUp := { running.startUp with config := some { config with vehicleId := 21 } } }
      cueFrame = 500 := by decide +kernel

/-- R44: vehicle 5 first announces 35 ms after its timer starts. -/
theorem test_first_announce : (startAnnounce running).zone.announceDue = some 5035000 := by decide +kernel

/-- R21: the same HOLDALL frame with one bit changed is discarded. -/
theorem test_damaged_frame :
    judgeFrame running [0xA7#8, 48#8, 0#8, 9#8, 1#8, 0#8, 0#8, 0#8] = .discarded ∧
    after (.frameDiscarded 0 [0xA7#8, 48#8, 0#8, 9#8, 1#8, 0#8, 0#8, 0#8]) running =
      { running with channel := { running.channel with receiver := .ignoring } } := by decide +kernel

/-- R21: the bytes of a frame begun without a rise of CD, one whose CD fell before its end, and one not yet complete are
no frame. -/
theorem test_frames_need_their_carrier :
    let after' (c : Instr) := judgeFrame (after c running) (frame 48 0 8 1 [])
    judgeFrame running (frame 48 0 8 1 []) = .accepted (raw 48 0 8 1 []) .holdall ∧ after' (.cdFall 0) = .notHeard ∧
    after' (.frameDiscarded 0 (frame 60 0 1 1 [])) = .notHeard ∧
    judgeFrame running ((frame 48 0 8 1 []).take 7) = .notHeard := by decide +kernel

/-! ### Steering -/

/-- R96: the offsets of the table for a range of 60 mm. -/
theorem test_lateral_offsets :
    lateralOffset 60 2400 1600 = 12 ∧ lateralOffset 60 1500 2600 = -16 ∧ lateralOffset 60 2040 1960 = 1 ∧
    lateralOffset 60 1960 2040 = -1 ∧ lateralOffset 60 4095 0 = 60 := by decide

/-- R97, R98: 1500 + 8 × 12 + trunc(4 × (12 − 17) ÷ 20) = 1595, slewed to 1550 from 1500 at 50 µs. -/
theorem test_steering_law :
    rawWidth 1500 8 4 12 17 = 1595 ∧ nextWidth ⟨1000, 2000, 1500⟩ 50 1500 1595 = 1550 ∧
    nextWidth ⟨1000, 2000, 1500⟩ 200 1900 51000 = 2000 := by decide

/-! ### Sound -/

/-- A block whose every sample is `n`. -/
def flat (n : Int) : BlockData :=
  Vector.ofFn fun i : Fin 512 =>
    let w := (n % 65536).toNat
    if i.val % 2 = 0 then byteOf (w / 256) else byteOf w

def clip : ClipEntry := ⟨0, 4, 256, false⟩

def playing (sample : Int) (gain : Nat) : Voice :=
  { Voice.clear with state := .playing, gain := gain, entry := some clip, buffer := some ⟨0, flat sample⟩ }

def withVoices (a b c : Voice) (s : State) : State :=
  { s with sound := { s.sound with amp := .active, voices := Vector.ofFn fun i : Fin 4 =>
      if i = 0 then a else if i = 1 then b else if i = 2 then c else Voice.clear } }

/-- R158: 12,000 at gain 128 plus 20,000 at gain 160 saturate to 32,767; with the spiel at 8,000 they are ducked to a sum
of 26,500. -/
theorem test_mixer :
    outputSample (withVoices Voice.clear (playing 12000 128) (playing 20000 160) running) = 32767 ∧
    outputSample (withVoices (playing 8000 128) (playing 12000 128) (playing 20000 160) running) = 26500 ∧
    contribution running (playing (-101) 100) = -79 := by decide +kernel

/-- R158: outside RUN the sample is 0. -/
theorem test_mixer_in_inhibit :
    outputSample (withVoices Voice.clear (playing 12000 128) (playing 20000 160) inhibited) = 0 := by decide +kernel

/-! ### Witnesses: the hypotheses of the obligations, met -/

/-- A part with one command waiting. -/
def commanded (c : Instr) (s : State) : State :=
  { s with pending := [c] }

/-- StepKeepsDriveLaw: a stop in force, and one that begins with the step. -/
theorem witness_StepKeepsDriveLaw :
    let s := commanded (.drivePeriod 0) (stopped ⟨true, false, false, false, false, false⟩ tracking)
    let s' := commanded (.chainOpen 0) tracking
    DriveLaw s ∧ (∃ t, step s = .next t) ∧ DriveLaw s' ∧ (∃ t, step s' = .next t) ∧
    (after (.chainOpen 0) tracking).governor.causes.any = true := by
  refine ⟨?_, ⟨_, rfl⟩, ?_, ⟨_, rfl⟩, by decide +kernel⟩ <;> (unfold DriveLaw; decide +kernel)

theorem witness_StepKeepsPositionLaw :
    let s := commanded (.tagRecord 0 0 (tag 7 2088 1068 300 0 2)) running
    PositionLaw tracking ∧ PositionLaw s ∧ (∃ t, step s = .next t) ∧
    (after (.tagRecord 0 0 (tag 7 2088 1068 300 0 2)) running).path.pos = .tracking := by
  refine ⟨?_, ?_, ⟨_, rfl⟩, by decide +kernel⟩ <;> (unfold PositionLaw; decide +kernel)

def record (cue mark : Nat) (e : Option CueEntry) : ArmedRecord := ⟨cue, mark, .tag, none, e⟩

def entry (secondary : Secondary) (actions : List Action) : CueEntry := ⟨.atMark, 0, secondary, false, actions⟩

def armed (l : List ArmedRecord) (s : State) : State :=
  { s with cues := { s.cues with armed := l } }

/-- StepKeepsListLaws: a full queue whose head is sent, and a cue that joins the armed list; the hold list holds one item. -/
theorem witness_StepKeepsListLaws :
    let s := commanded (.attemptStart 0)
      (queued [verdictFrame, verdictFrame, cueFrame, cueFrame, cueFrame, poseFrame]
        { tracking with channel := { tracking.channel with cdLowSince := some 0 } })
    let c := Instr.cueReceived 0 (frame 48 0 2 1 [9, 0])
    let s' := commanded c (armed [record 1 11000 none, record 2 11700 none, record 3 11800 none] tracking)
    HoldLaw s ∧ QueueLaw s ∧ ArmedLaw s' ∧ (∃ t, step s = .next t) ∧ (∃ t, step s' = .next t) ∧
    (after (.attemptStart 0) s).channel.attempt.isSome = true ∧ (after c s').cues.armed.map ArmedRecord.cue = [1, 2, 9, 3] := by
  refine ⟨?_, ?_, ?_, ⟨_, rfl⟩, ⟨_, rfl⟩, ?_⟩
  · unfold HoldLaw
    decide +kernel
  · unfold QueueLaw
    decide +kernel
  · unfold ArmedLaw
    decide +kernel
  · decide +kernel

def steering : State :=
  { tracking with
    steering := ⟨some 5000000, some 4980000, some ⟨1000, 2000, 1500⟩, 2000, some 1000, some 12, .good, 0, none⟩
    scanner := { tracking.scanner with guideList := .running, scanDue := some 5000000 } }

/-- StepKeepsRanges: the odometer, its remainder and the speed at the ends of their ranges; a pending width at its limit. -/
theorem witness_StepKeepsRanges :
    let s := commanded (.encEdge 500) { tracking with path := { tracking.path with
      odometer := 4294967295, remainder := 999, speed := 4000 } }
    (∃ t, step s = .next t) ∧ (TravelLaw s ∧ CounterLaw s ∧ (after (.encEdge 500) s).path.odometer = 4294967295) ∧
    (∃ t, step (commanded (.servoFrameStart 0) steering) = .next t) ∧
    (after (.servoFrameStart 0) steering).steering.width = 1000 ∧ WidthLaw (commanded (.servoFrameStart 0) steering) := by
  refine ⟨⟨_, rfl⟩, ?_, ⟨_, rfl⟩, by decide +kernel, ?_⟩
  · unfold TravelLaw CounterLaw
    decide +kernel
  · intro w h
    cases h
    refine ⟨by decide, by decide, by decide, by decide, ?_⟩
    intro p h
    cases h
    decide

def lockedBar : Bar := ⟨.locked, none, .closed, some 2000⟩
def suspectBar : Bar := ⟨.suspect, some 5000000, .opened, some 2500⟩

def withBars (judging : Bool) (b : Bar) (s : State) : State :=
  { s with
    restraints := { s.restraints with judging := judging, bars := Vector.ofFn fun i : Fin 8 =>
      if i = 0 then lockedBar else if i = 1 then b else Bar.reset } }

theorem witness_StepKeepsStopNotices :
    let s := commanded (.suspectTimerExpiry 0 2) (withBars true suspectBar tracking)
    (∃ t, step s = .next t) ∧ RestraintLaw s ∧ SuspensionLaw s ∧
    (after (.suspectTimerExpiry 0 2) s).governor.limits.restraint = 0 ∧
    (after (.suspectTimerExpiry 0 2) s).cues.restraintStop = true := by
  refine ⟨⟨_, rfl⟩, ?_⟩
  unfold RestraintLaw SuspensionLaw
  decide +kernel

/-- The part of the example of R15 with its curve entries: CAP 664, ZONE 0 or more under its margin, LOAD 4000. -/
def curved : State :=
  { tracking with governor := { tracking.governor with limits := { tracking.governor.limits with
      cap := 664, zone := zoneEntry tracking } } }

theorem witness_StepKeepsCurveEntries :
    CurveLaw (commanded (.encEdge 0) curved) ∧ (∃ t, step (commanded (.encEdge 0) curved) = .next t) ∧
    CurveLaw running ∧ (after (.encEdge 0) curved).governor.limits.cap = 664 := by
  refine ⟨⟨by decide, by decide, ?_⟩, ⟨_, rfl⟩, ⟨by decide, by decide, ?_⟩, by decide +kernel⟩
  · show curved.governor.limits.cap = min 1200 (stopCurve curved 12000 0 300) ∧
      curved.governor.limits.zone = (if ∃ h ∈ curved.zone.hold, h.item.covers (item 44 1) = true then 4000
        else stopCurve curved 12000 300 0) ∧ _
    decide +kernel
  · show running.governor.limits.cap = 4000 ∧ running.governor.limits.zone = 4000 ∧ running.governor.limits.load = 4000
    decide

theorem witness_StepKeepsChannelEntry :
    let s := commanded (.deafTimerExpiry 0) { running with channel := { running.channel with deafDue := some 5000000 } }
    (∃ t, step s = .next t) ∧ ChannelLaw s ∧ (after (.deafTimerExpiry 0) s).governor.limits.channel = 0 := by
  refine ⟨⟨_, rfl⟩, ?_⟩
  unfold ChannelLaw
  decide +kernel

theorem witness_SentFramesReadBack :
    (encodeBody (.status (buildStatus running))).length = 40 ∧ (encodeBody (.verdict true [.locked])).length = 2 ∧
    PoseBody.fits ⟨some (item 40 2), 65535, 4000, 500, false, true, true, true, true, 9,
      [item 40 2, item 44 1, item 1016 3, item 0 0], some (item 1023 0)⟩ ∧
    CueBody.fits ⟨255, some (15, 4294967295)⟩ ∧ CueBody.fits ⟨0, none⟩ := by
  refine ⟨by decide +kernel, by decide +kernel, ⟨?_, by decide, by decide, by decide, by decide, by decide, ?_, ?_⟩,
    ⟨by decide, ?_⟩, ⟨by decide, ?_⟩⟩
  · intro it h
    cases h
    unfold ZoneItem.isAligned
    decide
  · unfold ZoneItem.isAligned
    decide
  · intro it h
    cases h
    unfold ZoneItem.isAligned
    decide
  · intro scene time h
    cases h
    decide
  · intro scene time h
    cases h

/-- A claim in LISTEN since ride time 4,700, the claim window being 300 ms. -/
def claiming : State :=
  { tracking with zone := { tracking.zone with claim := some ⟨item 44 1, .listen 4700 [⟨7, true⟩]⟩ } }

def peer (fresh : Freshness) (heardUs : Nat) (held : List ZoneItem) (claim : Option ZoneItem) : Neighbour :=
  ⟨fresh, heardUs, 100, none, held, claim⟩

def withPeer (n : Neighbour) (s : State) : State :=
  { s with zone := { s.zone with neighbours := Vector.ofFn fun i : Fin 31 => if i = 6 then some n else none } }

theorem witness_NoItemIsTakenWhileAPeerHoldsIt :
    let s := withPeer (peer .live 5000000 [item 48 0] none) claiming
    (∃ t, exec (.claimWindowExpiry 0) s = .next t) ∧
    (after (.claimWindowExpiry 0) s).zone.hold = [⟨item 40 2, none⟩, ⟨item 44 1, none⟩] :=
  ⟨⟨_, rfl⟩, by decide +kernel⟩

/-- What a slot holds, its data apart. -/
inductive SlotView where
  | invalid
  | filling (b : Nat)
  | valid (b : Nat)
  deriving DecidableEq, Repr

def slotView : Slot → SlotView
  | .invalid => .invalid
  | .filling b => .filling b
  | .valid b _ => .valid b

/-- What way `w` of set `i` holds. -/
def slotAt (s : State) (i w : Nat) : SlotView :=
  slotView ((cacheSet s i).slot w)

def pinned : State :=
  { running with sound := { running.sound with
      pins := Vector.ofFn fun p : Fin 2 => if p = 0 then some ⟨4, some clip, .held⟩ else none
      cache := Vector.ofFn fun i : Fin 32 =>
        if i.val < 4 then CacheSet.reset.putSlot 0 (.valid i.val (flat 0)) else CacheSet.reset } }

theorem witness_LockedWaysKeepTheirBlocks :
    (∃ t, exec (.outputPeriod 0) pinned = .next t) ∧
    pinned.sound.pins[(0 : Fin 2)] = some ⟨4, some clip, .held⟩ ∧
    (after (.outputPeriod 0) pinned).sound.pins[(0 : Fin 2)] = some ⟨4, some clip, .held⟩ ∧
    ∃ data, (pinned.sound.cache[(3 : Fin 32)].ways)[(0 : Fin 2).val]? = some (.valid 3 data) :=
  ⟨⟨_, rfl⟩, by decide +kernel, by decide +kernel, flat 0, rfl⟩

theorem witness_EffectiveLimitAndBindingSource :
    ∀ k, (⟨4000, 4000, 4000, 4000, 4000, 4000, 4000, 4000, 4000, 4000⟩ : LimitTable).get k = 4000 := by
  intro k
  cases k <;> rfl

/-- StopCurveIsTheExactRoot at a mark far ahead, at one inside the allowance and at one that gives the bound. -/
theorem witness_StopCurveIsTheExactRoot :
    (tracking.path.speed ≤ 4000 ∧ tracking.cfg.reactionTime ≤ 500 ∧ tracking.cfg.serviceDecel ≤ 2000) ∧
    stopCurve tracking 200000 0 0 = 4000 ∧ stopCurve tracking 11780 0 2550 = 2550 ∧
    stopCurve tracking 11781 0 0 = 40 := by decide +kernel

theorem witness_FramesAreAcceptedByTheirTests :
    judgeGood running (raw 31 0 2 255 [9, 0]) = .accepted (raw 31 0 2 255 [9, 0]) (.cue ⟨9, none⟩) ∧
    judgeGood running (raw 63 5 6 0 []) = .accepted (raw 63 5 6 0 []) .dispatch ∧
    judgeGood running (raw 63 0 6 0 []) = .discarded ∧ judgeGood running (raw 32 0 2 0 [9, 0]) = .discarded ∧
    judgeGood inhibited (raw 63 5 6 0 []) = .discarded := by decide +kernel

theorem witness_ConfigFieldsAreBroughtIntoRange :
    clampField 50 500 none 49 = 50 ∧ clampField 50 500 none 501 = 500 ∧ clampField 50 500 (some 100) 0 = 100 ∧
    clampField 50 500 (some 100) 50 = 50 ∧ clampField 50 500 (some 100) 500 = 500 ∧
    (clampConfig config = config ∧ (clampConfig { config with lossTime := 0, announcePeriod := 500 }).lossTime = 2048 ∧
      (clampConfig { config with lossTime := 1999, announcePeriod := 501 }).lossTime = 2000) := by decide +kernel

theorem witness_SteeringStaysWithinLimitsAndSlew :
    0 < 0 + 1 ∧ lateralOffset 200 0 1 = -200 ∧ (1000 ≤ 1000 ∧ 1000 ≤ 2000) ∧
    nextWidth ⟨1000, 2000, 1500⟩ 200 1000 (-51000) = 1000 ∧ nextWidth ⟨1000, 2000, 1500⟩ 1 2000 1000 = 1999 := by
  decide +kernel

/-- OfferedFramesArePlacedByClass: five frames, a full queue with a CUE last, one with VERDICTs only. -/
theorem witness_OfferedFramesArePlacedByClass :
    let five := List.replicate 5 verdictFrame
    running.startUp.run = .run ∧ (∀ g ∈ five ++ [cueFrame], g.body.isPose = false) ∧
    (queued five running).channel.queue.length < 6 ∧
    (offerFrame 0 poseFrame.body (queued five running)).channel.queue = five ++ [poseFrame] ∧
    6 ≤ (five ++ [cueFrame]).length ∧ cueFrame.status ≠ .onAir ∧ cueFrame.body.cls = 2 ∧
    (offerFrame 48 verdictFrame.body (queued (five ++ [cueFrame]) running)).channel.queue = five ++ [verdictFrame] ∧
    verdictFrame.body.cls = 1 ∧ (∀ g ∈ five ++ [verdictFrame], g.status ≠ .onAir → g.body.cls ≠ 2) ∧
    (offerFrame 0 poseFrame.body (queued (five ++ [verdictFrame]) running)).channel.queue = five ++ [poseFrame] ∧
    (offerFrame 0 verdictFrame.body (queued (five ++ [verdictFrame]) running)).startUp.counters.txDropped = 1 ∧
    (offerFrame 0 cueFrame.body (queued (five ++ [cueFrame]) running)).startUp.counters.txDropped = 1 := by
  decide +kernel

/-- A configuration block of 64 bytes with its marker, vehicle 5 and every other field 0, and its CRC. -/
def block : List Byte :=
  let bs := [0x4A#8, 0x56#8, 0#8, 1#8, 5#8] ++ List.replicate 57 0#8
  bs ++ bytesOf16 (crc16 bs).toNat

def atStart : State :=
  { State.reset with nowUs := 1000 }

theorem witness_ConfigBlockIsTakenOrInhibits :
    atStart.startUp.run = .loading ∧ atStart.startUp.config = none ∧ block.length = 64 ∧ crc16 block = 0#16 ∧
    word16At block 0 = 0x4A56 ∧ byteAt block 4 = 5 ∧
    (after (.configBlockLoaded 0 block) atStart).startUp.config.map ConfigImage.announcePeriod = some 100 ∧
    (after (.configBlockLoaded 0 []) atStart).startUp.run = .inhibit ∧
    (after (.configBlockLoaded 0 []) atStart).channel.deafDue = some 2049000 := by decide +kernel

theorem witness_ContentCheckBeginsRun :
    loading.startUp.run = .loading ∧ loading.startUp.config = some config ∧ loading.anyBarFault = false ∧
    (contentCheck [] [] []).1 = .bad ∧ (after (.contentCheckDone 0 [] [] []) loading).startUp.run = .run ∧
    (after (.contentCheckDone 0 [] [] []) loading).startUp.faults.contentBad = true := by decide +kernel

/-- R120: a clip directory at block 1 and a cue directory at block 8 overlap; the version 3 is still kept. -/
theorem test_content_check_rejects_overlap :
    contentCheck [0x4A#8, 0x56#8, 0x32#8, 0x34#8, 0#8, 3#8, 0#8, 1#8, 0#8, 8#8, 0#8, 0#8, 0#8, 0#8] [] [] = (.bad, 3) := by
  decide +kernel

/-! ### Witnesses: position and path -/

theorem witness_EncEdgeMeasuresTravelAndSpeed :
    running.startUp.run = .run ∧ min 4294967295 (running.path.odometer + (0 + 750) / 1000) = running.path.odometer ∧
    running.path.capture = none ∧ inhibited.startUp.run ≠ .run ∧
    (after (.encEdge 0) running).path.remainder = 750 ∧
    (after (.encEdge 1500) { running with path := { running.path with capture := some ⟨5000000, 1⟩ } }).path.speed =
      1000 := by decide +kernel

/-- BoundaryCrossingMovesTheWindow at the edge that reaches the mark exactly, with the next item held and not held. -/
theorem witness_BoundaryCrossingMovesTheWindow :
    let s : State := { tracking with path := { tracking.path with odometer := 11999, remainder := 250 } }
    let held : State := { s with zone := { s.zone with hold := s.zone.hold ++ [⟨item 44 1, none⟩] } }
    s.startUp.run = .run ∧ s.path.window = some window ∧ window.next = some ⟨item 44 1, 12000⟩ ∧
    min 4294967295 (s.path.odometer + (s.path.remainder + s.cfg.encoderPitch) / 1000) = 12000 ∧
    s.holds (item 44 1) = false ∧ held.holds (item 44 1) = true ∧
    (item 40 2).covers window.here = true ∧ (item 40 2).covers (item 44 1) = false ∧
    12000 < min 4294967295 (12000 + s.cfg.vehicleLength) ∧
    (after (.encEdge 0) held).zone.hold = [⟨item 40 2, some 15000⟩, ⟨item 44 1, none⟩] ∧
    (after (.encEdge 0) s).startUp.faults.overrun = true := by decide +kernel

/-- TagMissGoesAdrift at the first millimetre beyond the tolerance: 12,500 + 500 + 1. -/
theorem witness_TagMissGoesAdrift :
    let s : State := withWindow { window with next := none }
      { tracking with path := { tracking.path with odometer := 13000, remainder := 250 } }
    s.startUp.run = .run ∧ s.path.pos = .tracking ∧ s.path.window = some { window with next := none } ∧
    min 4294967295 (s.path.odometer + (s.path.remainder + s.cfg.encoderPitch) / 1000) = 13001 ∧
    12500 + s.cfg.missTolerance < 13001 ∧ (after (.encEdge 0) s).path.pos = .adrift ∧
    (after (.encEdge 0) { s with path := { s.path with odometer := 12999 } }).path.pos = .tracking := by decide +kernel

theorem witness_CaptureOverflowIsStandstill :
    let s : State := { tracking with
      path := { tracking.path with overflowDue := some 5065535 }
      cues := { tracking.cues with hold := .pending 2000 } }
    s.startUp.run = .run ∧ s.governor.target = 0 ∧ s.governor.standstill = .idle ∧ s.cues.armed = [] ∧
    (after (.captureOverflow 65535) s).path.speed = 0 ∧
    (after (.captureOverflow 65535) s).cues.hold = .running 7065 ∧
    (after (.captureOverflow 65534) s).path.speed = 400 ∧
    (after (.captureOverflow 65535) { s with cues := { s.cues with hold := .pending 0 } }).cues.hold = .none := by
  decide +kernel

/-- TagReceiverCountsErrors: a bad check byte, a repeat read, and excess characters within 2 ms. -/
theorem witness_TagReceiverCountsErrors :
    (running.path.receiver.idleSince + 2000 + 0 ≤ running.nowUs) ∧
    tagCheckHolds (Vector.replicate 20 0#8) = false ∧
    (after (.tagRecord 0 0 (Vector.replicate 20 0#8)) running).startUp.counters.tagErrors = 1 ∧
    (goodTag (tag 7 2088 1068 300 0 2)).map GoodTag.number = some 7 ∧ tracking.path.lastTag = some 7 ∧
    tracking.path.pos = .tracking ∧
    (after (.tagExcessCharacters 1999) { running with path := { running.path with
      receiver := ⟨5000000, true, false⟩ } }).startUp.counters.tagErrors = 1 ∧
    (after (.tagExcessCharacters 2000) { running with path := { running.path with
      receiver := ⟨5000000, true, false⟩ } }).startUp.counters.tagErrors = 0 := by decide +kernel

/-- FirstTagIsJudgedByThePeers: here item 40/2, with and without a peer that holds 43/0. -/
theorem witness_FirstTagIsJudgedByThePeers :
    (goodTag (tag 7 2088 1068 300 0 2)).map GoodTag.here = some (item 40 2) ∧
    (goodTag (tag 7 2088 1068 300 0 2)).map GoodTag.boundary = some 300 ∧
    running.path.pos = .unknown ∧ running.path.window = none ∧ running.zone.hold = [] ∧ running.zone.claim = none ∧
    running.isBlocked (item 40 2) = false ∧
    (withPeer (peer .lost 0 [item 43 0] none) running).isBlocked (item 40 2) = true ∧
    (after (.tagRecord 0 0 (tag 7 2088 1068 300 0 2)) running).zone.claim = some ⟨item 40 2, .listen 5000 []⟩ ∧
    (after (.tagRecord 0 0 (tag 7 2088 1068 300 0 2)) (withPeer (peer .lost 0 [item 43 0] none) running)
      ).governor.causes.positionConflict = true := by decide +kernel

/-- LaterTagIsJudgedByTheWindow: a tag of the here item 40/2, confirmed and not; one of 48/1; and one of the next item 44/1
read 1 mm before its mark, held and not held, and at the mark. -/
theorem witness_LaterTagIsJudgedByTheWindow :
    let read (here : Nat) : Instr := .tagRecord 0 0 (tag 8 here 1072 300 0 2)
    let doubtful : State := { claiming with path := { claiming.path with
      pos := .adrift, window := some { window with confirmed := false }, recover := true } }
    let near (odometer : Nat) (held : Bool) : State := { tracking with
      path := { tracking.path with odometer := odometer }
      zone := { tracking.zone with hold := tracking.zone.hold ++ (if held then [⟨item 44 1, none⟩] else []) } }
    (goodTag (tag 8 2088 1072 300 0 2)).map GoodTag.here = some window.here ∧
    (goodTag (tag 8 1072 1072 300 0 2)).map GoodTag.here = some (item 48 1) ∧
    (goodTag (tag 8 1068 1072 300 0 2)).map GoodTag.here = some (item 44 1) ∧
    0 < running.cfg.claimWindow * running.cfg.announcePeriod ∧
    ({ doubtful with nowUs := 4999000 } : State).elapsedSince 4700 < running.cfg.claimWindow * running.cfg.announcePeriod ∧
    (after (read 2088) tracking).path.lastTag = some 8 ∧ (after (read 2088) tracking).governor.limits.tag = 4000 ∧
    (after (read 2088) { doubtful with nowUs := 4999000 }).path.pos = .tracking ∧
    (after (read 2088) { doubtful with nowUs := 4999000 }).path.recover = true ∧
    (after (read 2088) { doubtful with nowUs := 4999000 }).governor.limits.tag = 150 ∧
    (near 11999 true).holds (item 44 1) = true ∧ (near 11999 false).holds (item 44 1) = false ∧
    (after (read 1068) (near 11999 true)).governor.limits.tag = 4000 ∧
    (after (read 1068) (near 11999 true)).zone.hold = [⟨item 40 2, some 14999⟩, ⟨item 44 1, none⟩] ∧
    (after (read 1068) (near 11999 false)).governor.causes.positionConflict = true ∧
    (after (read 1068) (near 11999 false)).path.pos = .tracking ∧
    (after (read 1072) tracking).path.pos = .adrift ∧ (after (read 1068) (near 12000 true)).path.pos = .adrift := by
  decide +kernel

/-- A tag record with the LOAD flag `load`, cue `a` at `da` mm and cue `b` at `db` mm, and no next tag. -/
def markedTag (number here next boundary : Nat) (load : Bool) (a da b db : Nat) : Vector Byte 20 :=
  let bs := bytesOf16 number ++ bytesOf16 here ++ bytesOf16 next ++ bytesOf16 boundary ++ [byteOf 120, byteOf 30] ++
    [byteOf a] ++ bytesOf16 da ++ [byteOf b] ++ bytesOf16 db ++ bytesOf16 0 ++ [byteOf (if load then 128 else 0)]
  Vector.ofFn fun i : Fin 20 =>
    if i.val < 19 then bs.getD i.val 0#8 else byteOf (255 - (bs.map BitVec.toNat).sum % 256)

/-- InstalledTagsArmTheirMarks: a first tag that enters a LOAD stretch, with B nearer than A; the same cue twice at one
place; cue A alone on a refresh; and an entry under suspension. -/
theorem witness_InstalledTagsArmTheirMarks :
    let first (load : Bool) (a da b db : Nat) : Instr := .tagRecord 0 0 (markedTag 8 2088 1068 300 load a da b db)
    let cached : State := { pinned with
      cues := { pinned.cues with hold := .running 9000, effects := Vector.replicate 8 .on, armed := [record 3 9 none] }
      restraints := { pinned.restraints with dispatched := true }
      sound := { pinned.sound with cache := Vector.ofFn fun i : Fin 32 =>
        (pinned.sound.cache[i]).putSlot 2 (.valid i.val (flat 1)) } }
    (goodTag (markedTag 8 2088 1068 300 true 9 4095 4 0)).map (fun g => (g.load, g.markA, g.markB)) =
      some (true, ⟨9, 4095⟩, ⟨4, 0⟩) ∧
    cached.path.pos = .unknown ∧ cached.path.window = none ∧ cached.isBlocked (item 40 2) = false ∧
    cached.content.queue.length ≤ 80 ∧ running.path.receiver.idleSince + 2000 + 0 ≤ running.nowUs ∧
    (after (first true 9 4095 4 0) cached).cues.armed = [record 4 0 none, record 9 4095 none] ∧
    (after (first true 9 4095 4 0) cached).cues.effects = Vector.replicate 8 .off ∧
    (after (first true 9 4095 4 0) cached).cues.hold = .none ∧
    (after (first true 9 4095 4 0) cached).restraints.dispatched = false ∧
    slotAt cached 3 2 = .valid 3 ∧ slotAt (after (first true 9 4095 4 0) cached) 3 0 = .valid 3 ∧
    slotAt (after (first true 9 4095 4 0) cached) 3 2 = .invalid ∧
    (after (first true 9 5 9 5) { cached with cues := { cached.cues with safetyStop := true } }).cues.effects =
      Vector.replicate 8 .on ∧
    (after (first true 9 5 9 5) cached).cues.armed = [record 9 5 none] ∧
    tracking.cues.armed = [] ∧ window.load = false ∧
    (after (first false 9 5 0 0) tracking).cues.armed = [record 9 11705 none] ∧
    (after (first false 0 5 0 0) tracking).cues.armed = [] := by decide +kernel

/-! ### Witnesses: lines and safety stops -/

/-- LineEventsChangeTheirLines: CD at each level, a frame whose length byte is 40 and 41, and 1 ms of RESTART high exactly. -/
theorem witness_LineEventsChangeTheirLines :
    let low := after (.cdFall 0) running
    let silent (r : RunState) : State := { low with startUp := { low.startUp with run := r } }
    let high (since : Nat) : State := { running with scanner := { running.scanner with restartSince := since } }
    let six (n : Nat) : List Byte := [preamble, 0#8, 0#8, 0#8, 0#8, byteOf n]
    running.channel.cdLowSince = none ∧ low.channel.cdLowSince = some 5000000 ∧
    low.channel.receiver = .awaitingCarrier ∧ (after (.cdRise 0) low).channel.receiver = .assembling ∧
    (after (.cdRise 0) (silent .loading)).channel.receiver = .ignoring ∧
    (six 40).head? = some preamble ∧ byteAt (six 40) 5 = 40 ∧ judgeFrame running (six 40) = .notHeard ∧
    judgeFrame running (six 41) = .discarded ∧ judgeFrame running [] = .notHeard ∧ judgeFrame running [0#8] = .discarded ∧
    (after (.frameDiscarded 0 [0#8]) running).channel.receiver = .ignoring ∧
    judgeFrame low [0#8] = .notHeard ∧
    running.scanner.restartHigh = true ∧
    (after (.restartLineReady 0) (high 4999000)).scanner.restartReady = true ∧
    (after (.restartLineReady 0) (high 4999001)).scanner.restartReady = false ∧
    (after (.restartLineEdge 0 false) (high 4999000)).scanner.restartReady = true ∧
    (after (.restartLineEdge 0 false) (high 4999001)).scanner.restartReady = false ∧
    running.scanner.latches[(1 : Fin 8)].high = false ∧
    (after (.latchEdge 0 2 true) running).scanner.latches[(1 : Fin 8)].settleDue = some 5020000 ∧
    (after (.latchEdge 0 3 true) running).scanner.latches[(2 : Fin 8)].settleDue = none := by decide +kernel

theorem witness_SafetyStopsActAtOnce :
    judgeFrame running (frame 5 0 2 1 [9, 0]) = .duplicate ∧
    (after (.duplicateId 0 (frame 5 0 2 1 [9, 0])) running).governor.causes.duplicateId = true ∧
    (after (.overspeedTimerExpiry 200000) { running with governor := { running.governor with
      overspeedDue := some 5200000 } }).governor.causes.overspeed = true ∧
    (after (.overspeedTimerExpiry 199999) { running with governor := { running.governor with
      overspeedDue := some 5200000 } }).governor.causes.overspeed = false ∧
    running.scanner.chainHigh = true ∧ running.governor.causes.chainOpen = false ∧
    (after (.chainOpen 0) running).governor.brake = .stop ∧
    (after (.chainOpen 0) running).scanner.chainHigh = false := by decide +kernel

/-! ### Witnesses: frames received -/

theorem witness_AcceptedFramesEndDeafness :
    judgeFrame running (frame 7 0 5 1 [1, 1]) = .accepted (raw 7 0 5 1 [1, 1]) .verdict ∧
    judgeFrame running (frame 7 0 11 1 (List.replicate 40 0)) =
      .accepted (raw 7 0 11 1 (List.replicate 40 0)) .status ∧
    running.channel.deaf = false ∧
    (after (.verdictReceived 0 (frame 7 0 5 1 [1, 1])) { running with channel := { running.channel with deaf := true } }
      ).governor.limits.channel = 4000 := by decide +kernel

/-- The bytes of a POSE from vehicle 7 that holds 44/1 (042C hex), with announce period 40 ms. -/
def peerPose : List Nat := [255, 255, 0, 0, 0, 0, 0, 40, 0, 0, 1, 4, 44]

/-- PoseSetsTheNeighbourEntry: a POSE that contradicts the claim, one that is heard 1 ms before the window ends and one at its
end, and one that frees the item of a claim in WAITING. -/
theorem witness_PoseSetsTheNeighbourEntry :
    let elsewhere : List Nat := [255, 255, 0, 0, 0, 0, 0, 40, 0, 0, 1, 0, 48]
    let pose (bytes : List Nat) : Instr := .poseReceived 0 (frame 7 0 1 1 bytes)
    let listen (heard : Bool) : State := { claiming with zone := { claiming.zone with
      claim := some ⟨item 44 1, .listen 4700 [⟨7, heard⟩, ⟨9, true⟩]⟩ } }
    let waiting : State := withPeer (peer .stale 0 [item 44 1] none)
      { claiming with zone := { claiming.zone with claim := some ⟨item 44 1, .waiting⟩ } }
    judgeFrame claiming (frame 7 0 1 1 peerPose) =
      .accepted (raw 7 0 1 1 peerPose)
        (.pose ⟨none, 0, 0, 40, false, false, false, false, false, 0, [item 44 1], none⟩) ∧
    (raw 7 0 1 1 peerPose).source = (6 : Fin 31).val + 1 ∧ (item 44 1).conflicts (item 44 1) = true ∧
    ((after (pose peerPose) claiming).zone.neighbours[(6 : Fin 31)]).map Neighbour.period = some 50 ∧
    (after (pose peerPose) claiming).zone.claim = some ⟨item 44 1, .waiting⟩ ∧
    (after (pose elsewhere) { listen false with nowUs := 4999000 }).zone.claim =
      some ⟨item 44 1, .listen 4700 [⟨7, true⟩, ⟨9, true⟩]⟩ ∧
    (after (pose elsewhere) (listen false)).zone.hold = [⟨item 40 2, none⟩, ⟨item 44 1, none⟩] ∧
    (after (pose elsewhere) waiting).zone.claim = some ⟨item 44 1, .listen 5000 [⟨7, false⟩]⟩ ∧
    (after (pose peerPose) waiting).zone.claim = some ⟨item 44 1, .waiting⟩ := by decide +kernel

/-- CueFramesArmTheirCue: cue 9 into an empty list, one already there, and a full list of twelve. -/
theorem witness_CueFramesArmTheirCue :
    let full := (List.range 12).map fun k => record (k + 20) 11700 none
    judgeFrame tracking (frame 48 0 2 1 [9, 0]) = .accepted (raw 48 0 2 1 [9, 0]) (.cue ⟨9, none⟩) ∧
    tracking.startUp.run = .run ∧ tracking.content.check = .pass ∧ tracking.channel.deaf = false ∧
    tracking.content.queue.length < 96 ∧
    (after (.cueReceived 0 (frame 48 0 2 1 [9, 0])) tracking).cues.armed = [⟨9, 11700, .frame, none, none⟩] ∧
    (after (.cueReceived 0 (frame 48 0 2 1 [9, 0])) (armed [record 9 11700 none] tracking)).cues.armed =
      [record 9 11700 none] ∧
    full.length = 12 ∧ full.getLast? = some (record 31 11700 none) ∧
    (after (.cueReceived 0 (frame 48 0 2 1 [9, 0])) (armed full tracking)).startUp.counters.cuesLost = 1 := by
  decide +kernel

theorem witness_SceneClocksFollowSync :
    judgeFrame running (frame 48 0 3 1 [15, 0, 1, 0, 0]) =
      .accepted (raw 48 0 3 1 [15, 0, 1, 0, 0]) (.sync ((14 : Fin 15).val + 1) 65536) ∧
    (after (.syncReceived 0 (frame 48 0 3 1 [15, 0, 1, 0, 0])) running).cues.clocks[(14 : Fin 15)] =
      ⟨65536, 5000, true⟩ ∧
    (after (.sceneClockExpiry 0 1) { running with cues := { running.cues with
      clocks := Vector.replicate 15 ⟨0, 0, true⟩ } }).cues.clocks[(0 : Fin 15)].valid = false ∧
    (after (.sceneClockExpiry 0 1) { running with cues := { running.cues with
      clocks := Vector.replicate 15 ⟨0, 1, true⟩ } }).cues.clocks[(0 : Fin 15)].valid = true := by decide +kernel

theorem witness_CheckAndQueryAreAnswered :
    judgeFrame running (frame 48 5 4 1 []) = .accepted (raw 48 5 4 1 []) .check ∧
    judgeFrame running (frame 48 5 10 1 []) = .accepted (raw 48 5 10 1 []) .query ∧
    running.channel.queue.length < 6 ∧ running.cfg.restraintCount ≤ 8 ∧
    (after (.checkReceived 0 (frame 48 5 4 1 [])) (withBars true lockedBar running)).restraints.ready = true ∧
    (after (.checkReceived 0 (frame 48 5 4 1 [])) (withBars true suspectBar running)).restraints.ready = false := by
  decide +kernel

def atPlatform : State :=
  withWindow { window with load := true } (withBars true lockedBar { tracking with
    path := { tracking.path with speed := 0 } })

def readyToGo (ready dispatched : Bool) : State :=
  { atPlatform with restraints := { atPlatform.restraints with ready := ready, dispatched := dispatched } }

theorem witness_DispatchIsAcceptedIgnoredOrRefused :
    judgeFrame atPlatform (frame 48 5 6 1 []) = .accepted (raw 48 5 6 1 []) .dispatch ∧
    (readyToGo true false).loadStandstill = true ∧
    (after (.dispatchReceived 0 (frame 48 5 6 1 [])) (readyToGo true false)).restraints.dispatched = true ∧
    (after (.dispatchReceived 0 (frame 48 5 6 1 [])) (readyToGo true true)).zone.refusedPending = false ∧
    (after (.dispatchReceived 0 (frame 48 5 6 1 [])) (readyToGo false false)).zone.refusedPending = true := by
  decide +kernel

def faultBar (latch : LatchState) : Bar := ⟨.fault, none, latch, some 40⟩

/-- ClearRemovesFaultsWhoseConditionEnded: OVERRUN selected alone (bit 2), RESTRAINT alone (bit 5) and both, with a good
lock, at load standstill, and with neither. -/
theorem witness_ClearRemovesFaultsWhoseConditionEnded :
    let s := stopped ⟨false, false, true, false, false, false⟩ { tracking with startUp := { tracking.startUp with
      faults := { FaultSet.empty with overrun := true }, first := some (.overrun, 4000) } }
    let barred (latch : LatchState) (p : State) : State := after (.clearFaults 0 (frame 48 0 7 1 [1, 0, 0])) (withBars true
      (faultBar latch) { p with
        restraints := { p.restraints with spielDue := some 9000000 }
        cues := { p.cues with restraintStop := true }
        startUp := { p.startUp with faults := { p.startUp.faults with restraint := true } }
        governor := { p.governor with limits := { p.governor.limits with restraint := 0 } } })
    let clear (mask : Nat) (p : State) : State := after (.clearFaults 0 (frame 48 0 7 2 [1, 0, mask]))
      { p with channel := { p.channel with receiver := .assembling } }
    judgeFrame s (frame 48 0 7 1 [1, 0, 4]) = .accepted (raw 48 0 7 1 [1, 0, 4]) (.clearFaults 4) ∧
    4 / 2 ^ (FaultKind.overrun.code - 1) % 2 = 1 ∧ 4 / 2 ^ (FaultKind.restraint.code - 1) % 2 = 0 ∧
    judgeFrame s (frame 48 0 7 1 [1, 0, 36]) = .accepted (raw 48 0 7 1 [1, 0, 36]) (.clearFaults 36) ∧
    36 / 2 ^ (FaultKind.overrun.code - 1) % 2 = 1 ∧ 36 / 2 ^ (FaultKind.restraint.code - 1) % 2 = 1 ∧
    (clear 4 s).governor.limits.safety = 4000 ∧ (clear 4 s).governor.brake = .hold ∧ (clear 4 s).startUp.first = none ∧
    (clear 36 (barred .closed s)).restraints.bars[(1 : Fin 8)].state = .locked ∧
    (clear 36 (barred .closed s)).startUp.faults = FaultSet.empty ∧
    (clear 36 (barred .closed s)).governor.limits.restraint = 4000 ∧
    (clear 36 (barred .closed s)).cues.restraintStop = false ∧
    (clear 36 (barred .closed s)).restraints.spielDue = none ∧
    (clear 32 (barred .closed s)).startUp.faults = { FaultSet.empty with overrun := true } ∧
    (clear 32 (barred .opened atPlatform)).restraints.bars[(1 : Fin 8)].state = .opened ∧
    (clear 36 (barred .opened s)).restraints.bars[(1 : Fin 8)].state = .fault ∧
    (clear 36 (barred .opened s)).startUp.faults = { FaultSet.empty with restraint := true } ∧
    (clear 36 (barred .opened s)).restraints.spielDue = some 9000000 := by decide +kernel

/-- ClearRemovesFaultsWhoseConditionEnded with every kind in the set and all but RESTRAINT selected: every condition holds
that can in RUN; none does but CHAIN_OPEN's, one loss time after the last duplicate frame; and 1 ms before that. -/
theorem witness_ClearRemovesFaultsWhoseConditionEnded_conditions :
    let all : FaultSet := ⟨true, true, true, true, true, true, true, true, true, true, true⟩
    let s (speed : Nat) (pos : PositionState) (guide : GuideState) (txFail : Bool) (check : CheckResult)
        (duplicate : Int) : State :=
      let u := stopped ⟨true, true, true, true, true, false⟩ tracking
      after (.clearFaults 0 (frame 48 0 7 1 [1, 7, 223])) { u with
        path := { u.path with speed := speed, pos := pos }
        steering := { u.steering with guide := guide }
        channel := { u.channel with txFail := txFail, lastDuplicate := some duplicate }
        content := { u.content with check := check }
        startUp := { u.startUp with faults := all } }
    let ended (duplicate : Int) : State := s 150 .tracking .good false .pass duplicate
    (s 151 .adrift .fading true .bad 2953).startUp.faults =
      { all with overrun := false, positionConflict := false, configBad := false } ∧
    (ended 2952).startUp.faults = { FaultSet.empty with chainOpen := true, restraint := true } ∧
    (ended 2952).governor.causes = ⟨true, false, false, false, false, false⟩ ∧
    (ended 2953).startUp.faults.duplicateId = true := by decide +kernel

/-- EntriesAgeAndAreCleared: at 299 ms, 300 ms and the loss time of 2,048 ms, with a claim that awaits the peer and one that
its item blocks. -/
theorem witness_EntriesAgeAndAreCleared :
    let s (f : Freshness) := withPeer (peer f 5000000 [] none) running
    let awaited (f : Freshness) : State := withPeer (peer f 5000000 [] none) { claiming with zone := { claiming.zone with
      claim := some ⟨item 44 1, .listen 4700 [⟨7, false⟩, ⟨9, false⟩]⟩ } }
    let blocked (f : Freshness) : State := withPeer (peer f 0 [item 44 1] none)
      { claiming with zone := { claiming.zone with claim := some ⟨item 44 1, .waiting⟩ } }
    judgeFrame (s .lost) (frame 48 0 7 1 [2, 7]) = .accepted (raw 48 0 7 1 [2, 7]) (.clearPeer ((6 : Fin 31).val + 1)) ∧
    (after (.clearPeer 0 (frame 48 0 7 1 [2, 7])) (s .lost)).zone.neighbours[(6 : Fin 31)] = none ∧
    (after (.clearPeer 0 (frame 48 0 7 1 [2, 7])) (s .stale)).zone.neighbours[(6 : Fin 31)] =
      some (peer .stale 5000000 [] none) ∧
    (after (.neighbourAgeing 299999 7) (s .live)).zone.neighbours[(6 : Fin 31)] = some (peer .live 5000000 [] none) ∧
    (after (.neighbourAgeing 300000 7) (s .live)).zone.neighbours[(6 : Fin 31)] = some (peer .stale 5000000 [] none) ∧
    (after (.neighbourAgeing 2048000 7) (s .stale)).zone.neighbours[(6 : Fin 31)] =
      some (peer .lost 5000000 [] none) ∧
    (after (.neighbourAgeing 300000 7) (awaited .live)).zone.claim =
      some ⟨item 44 1, .listen 4700 [⟨7, false⟩, ⟨9, false⟩]⟩ ∧
    (after (.neighbourAgeing 2048000 7) (awaited .stale)).zone.claim = some ⟨item 44 1, .listen 4700 [⟨9, false⟩]⟩ ∧
    (after (.clearPeer 0 (frame 48 0 7 1 [2, 7])) (blocked .lost)).zone.claim = some ⟨item 44 1, .listen 5000 []⟩ ∧
    (after (.clearPeer 0 (frame 48 0 7 1 [2, 7])) (blocked .stale)).zone.claim = some ⟨item 44 1, .waiting⟩ := by
  decide +kernel

theorem witness_HoldallSetsRideToZero :
    judgeFrame tracking (frame 48 0 8 1 []) = .accepted (raw 48 0 8 1 []) .holdall ∧ tracking.channel.deaf = false ∧
    tracking.governor.limits.ride = 4000 ∧
    (after (.holdall 0 (frame 48 0 8 1 [])) tracking).governor.limits.ride = 0 := by decide +kernel

/-- ResumeLiftsRideWhenNoCauseIsLeft: no cause; a cause that stays; CHAIN_OPEN with another; CHAIN_OPEN alone. -/
theorem witness_ResumeLiftsRideWhenNoCauseIsLeft :
    let lone := stopped ⟨true, false, false, false, false, false⟩ running
    let both := stopped ⟨true, false, true, false, false, false⟩ running
    let resume := frame 48 5 9 1 [1]
    judgeFrame running resume = .accepted (raw 48 5 9 1 [1]) (.resume true) ∧ running.governor.causes.any = false ∧
    lone.scanner.chainHigh = true ∧ (lone.governor.causes.put false .chainOpen).any = false ∧
    (both.governor.causes.put false .chainOpen).any = true ∧
    (after (.resume 0 resume) running).governor.limits.ride = 4000 ∧
    (after (.resume 0 resume) running).governor.limits.tag = 150 ∧
    (after (.resume 0 resume) lone).governor.limits.ride = 4000 ∧
    (after (.resume 0 resume) both).governor.limits.ride = 0 ∧
    (after (.resume 0 resume) (after (.chainOpen 0) lone)).governor.limits.ride = 0 := by decide +kernel

/-- WarmResetByFrameAndByLine: at standstill and not; by a ready line and not; and with a pin that lacks three of its four
blocks while a voice's read is in flight. -/
theorem witness_WarmResetByFrameAndByLine :
    let low (ready : Bool) : State := { tracking with scanner := { tracking.scanner with
      restartHigh := false, restartSince := 4999000, restartReady := ready } }
    let still : State := { tracking with path := { tracking.path with speed := 0 } }
    let filling : State := { running with
      content := { running.content with
        reader := .reading (.block 9) [⟨.voice 1, 0⟩] 5000100, queue := [⟨.block 10, [⟨.voice 1, 1⟩], 1⟩], lastVoice := 1 }
      sound := { running.sound with
        pins := Vector.ofFn fun p : Fin 2 => if p = 0 then some ⟨4, some clip, .filling⟩ else none
        cache := Vector.ofFn fun i : Fin 32 => if i = 0 then CacheSet.reset.putSlot 0 (.valid 0 (flat 0))
          else if i = 9 then CacheSet.reset.putSlot 2 (.filling 9) else CacheSet.reset } }
    let cold := after (.restart 0 (frame 48 5 12 1 [])) filling
    judgeFrame tracking (frame 48 5 12 1 []) = .accepted (raw 48 5 12 1 []) .restart ∧ tracking.path.speed ≠ 0 ∧
    (after (.restart 0 (frame 48 5 12 1 [])) tracking).path.odometer = 11700 ∧
    (after (.restart 0 (frame 48 5 12 1 [])) still).path.odometer = 0 ∧
    (after (.restartLineRequest 0) (low true)).path.odometer = 0 ∧
    (after (.restartLineRequest 0) (low false)).path.odometer = 11700 ∧
    tracking.path.pos ≠ .unknown ∧ (after (.restartLineRequest 0) (low true)).channel.queue.length = 1 ∧
    (after (.restartLineRequest 0) (after (.restartLineRequest 0) (low true))).channel.queue.length = 1 ∧
    (after (.restart 0 (frame 48 5 12 1 [])) running).channel.queue = [] ∧
    filling.content.check = .pass ∧ filling.sound.pins[(0 : Fin 2)] = some ⟨4, some clip, .filling⟩ ∧
    slotAt cold 0 0 = .valid 0 ∧ slotAt cold 1 0 = .filling 1 ∧ slotAt cold 3 0 = .filling 3 ∧
    slotAt cold 4 0 = .invalid ∧ slotAt cold 9 2 = .invalid ∧
    cold.content.queue.map ReadRequest.target = [.block 2, .block 3] ∧ cold.content.lastVoice = 3 := by decide +kernel

/-- WarmResetByFrameAndByLine: the counters and the fault record are kept. -/
theorem witness_WarmResetByFrameAndByLine_kept :
    let s : State := { running with startUp := { running.startUp with
      counters := { running.startUp.counters with txDropped := 7, contentErrors := 65535 }
      faults := { FaultSet.empty with tagMiss := true }
      first := some (.tagMiss, 4000) } }
    let t := after (.restart 0 (frame 48 5 12 1 [])) s
    t.epochUs = 5000000 ∧ t.startUp.counters = s.startUp.counters ∧ t.startUp.faults = s.startUp.faults ∧
    t.startUp.first = s.startUp.first := by decide +kernel

/-! ### Witnesses: sending -/

/-- AttemptStartsAfterTheAccessWait: CD low for exactly the 300 µs of a POSE of vehicle 5, and 1 µs less. -/
theorem witness_AttemptStartsAfterTheAccessWait :
    let s (since : Nat) : State := queued [cueFrame, poseFrame, verdictFrame]
      { running with channel := { running.channel with cdLowSince := some since } }
    (∀ g ∈ [cueFrame], poseFrame.body.cls < g.body.cls) ∧ (∀ g ∈ [verdictFrame], poseFrame.body.cls ≤ g.body.cls) ∧
    (s 4999700).channel.attempt = none ∧
    (after (.attemptStart 0) (s 4999700)).channel.seqCounter = 1 ∧
    (after (.attemptStart 0) (s 4999701)).channel.seqCounter = 0 := by decide +kernel

def onAir (attempts : Nat) (f : TxFrame) (giveUps : Nat) : State :=
  { running with channel := { running.channel with
      queue := [cueFrame, { f with attempts := attempts, seq := some 3, status := .onAir }]
      attempt := some ⟨4999744, List.replicate 8 0#8⟩
      poseGiveUps := giveUps } }

/-- AttemptsEndInSuccessRetryOrGiveUp: eight bytes last 256 µs; the third collision; the fourth and fifth
give-up; and the three outcomes with a POSE pending. -/
theorem witness_AttemptsEndInSuccessRetryOrGiveUp :
    let later (attempts : Nat) : State :=
      let s := onAir attempts poseFrame 0
      { s with channel := { s.channel with pendingPose := some (buildPose running) } }
    (onAir 1 poseFrame 0).channel.pendingPose = none ∧ cueFrame.status ≠ .onAir ∧
    (after (.attemptSuccess 0) (onAir 1 verdictFrame 0)).channel.queue = [cueFrame] ∧
    (after (.attemptSuccess 0) (onAir 1 poseFrame 4)).channel.poseGiveUps = 0 ∧
    (after (.collision 0) (onAir 2 poseFrame 0)).channel.queue =
      [cueFrame, { poseFrame with attempts := 2, seq := some 3, status := .retrying 5004100 }] ∧
    (after (.collision 0) (onAir 3 verdictFrame 0)).startUp.counters.txGiveUps = 1 ∧
    (after (.collision 0) (onAir 3 poseFrame 3)).channel.txFail = false ∧
    (after (.collision 0) (onAir 3 poseFrame 4)).channel.txFail = true ∧
    (after (.attemptSuccess 0) { onAir 1 verdictFrame 0 with nowUs := 4999999 }).channel.queue.length = 2 ∧
    (onAir 3 poseFrame 0).startUp.run = .run ∧ cueFrame.body.isPose = false ∧
    (after (.attemptSuccess 0) (later 1)).channel.queue = [cueFrame, poseFrame] ∧
    (after (.collision 0) (later 2)).channel.queue =
      [cueFrame, { poseFrame with attempts := 2, status := .retrying 5004100 }] ∧
    (after (.collision 0) (later 3)).channel.queue = [cueFrame, poseFrame] ∧
    (after (.collision 0) (later 3)).channel.pendingPose = none := by decide +kernel

/-- AnnounceTimerOffersAPose: into an empty queue, over a queued POSE, and beside one under transmission. -/
theorem witness_AnnounceTimerOffersAPose :
    let s (q : List TxFrame) : State := queued q { running with zone := { running.zone with announceDue := some 5000000 } }
    (s []).zone.announceDue = some 5000000 ∧ poseFrame.body.isPose = true ∧
    (after (.announceTimerExpiry 0) (s [])).channel.queue = [poseFrame] ∧
    (after (.announceTimerExpiry 0) (s [{ poseFrame with attempts := 2, seq := some 3 }])).channel.queue =
      [{ poseFrame with attempts := 2 }] ∧
    (after (.announceTimerExpiry 0) (s [{ poseFrame with status := .onAir }])).channel.pendingPose =
      some (buildPose running) ∧
    (after (.announceTimerExpiry 0) (s [])).zone.announceDue = some 5100000 := by decide +kernel

/-- ClaimWindowCompletesTheClaim: at the end of the window exactly, 1 ms before it, and with a LOST peer that conflicts. -/
theorem witness_ClaimWindowCompletesTheClaim :
    claiming.zone.claim = some ⟨item 44 1, .listen 4700 [⟨7, true⟩]⟩ ∧
    claiming.elapsedSince 4700 = 300 ∧
    (after (.claimWindowExpiry 0) claiming).zone.hold = [⟨item 40 2, none⟩, ⟨item 44 1, none⟩] ∧
    (after (.claimWindowExpiry 0) { claiming with nowUs := 4999999 }).zone.hold = [⟨item 40 2, none⟩] ∧
    (after (.claimWindowExpiry 0) (withPeer (peer .lost 0 [] (some (item 45 0))) claiming)).zone.hold =
      [⟨item 40 2, none⟩] := by decide +kernel

/-! ### Witnesses: drive, scans and steering -/

theorem witness_DrivePeriodRampsTheTarget :
    running.governor.periodDue ≤ running.nowUs ∧
    (after (.drivePeriod 0) { running with governor := { running.governor with nextWidth := 7 } }).governor.width = 7 ∧
    (after (.drivePeriod 0) { running with governor := { running.governor with
      periodDue := 5000001, nextWidth := 7 } }).governor.width = 0 := by decide +kernel

/-- Channels 8 and 9 at the values given, all others 0. -/
def guide (l r : Nat) : Vector Conversion 10 :=
  Vector.ofFn fun i : Fin 10 => if i = 8 then BitVec.ofNat 12 l else if i = 9 then BitVec.ofNat 12 r else 0#12

/-- GuideFramesSteerAndJudgeTheGuide at the guide minimum of 600 and one below it, in each guide state. -/
theorem witness_GuideFramesSteerAndJudgeTheGuide :
    let s (g : GuideState) (n : Nat) (due : Option Nat) : State := { steering with steering := { steering.steering with
      guide := g, weakCount := n, lossDue := due } }
    steering.scanner.guideList = .running ∧ steering.steering.working = some ⟨1000, 2000, 1500⟩ ∧
    (after (.scanEnd 0 (guide 300 300)) (s .good 0 none)).steering.guide = .good ∧
    (after (.scanEnd 0 (guide 300 299)) (s .good 0 none)).steering.guide = .fading ∧
    (after (.scanEnd 0 (guide 300 299)) (s .fading 1 (some 5400000))).steering.weakCount = 2 ∧
    (after (.scanEnd 0 (guide 300 299)) (s .fading 2 (some 5400000))).governor.limits.guide = 150 ∧
    (after (.scanEnd 0 (guide 2400 1600)) (s .weak 3 (some 5400000))).steering.lossDue = none ∧
    (after (.scanEnd 0 (guide 2400 1600)) (s .lost 3 none)).steering.lastOffset = some 12 ∧
    (after (.guideLossExpiry 400000) (s .weak 3 (some 5400000))).startUp.faults.guideLost = true ∧
    (after (.guideLossExpiry 399999) (s .weak 3 (some 5400000))).startUp.faults.guideLost = false := by decide +kernel

/-- RestraintsAreJudgedAtTheirEvents: a restraint scan that opens the grace time of bar 2, a latch that is accepted, and
one that has returned. -/
theorem witness_RestraintsAreJudgedAtTheirEvents :
    let s : State := withBars true lockedBar { tracking with scanner := { tracking.scanner with
      restraintList := .running, scanDue := some 5000000
      latches := Vector.ofFn fun i : Fin 8 => ⟨i = 0, .closed, if i.val < 2 then some 5000000 else none⟩ } }
    let channels : Vector Conversion 10 := Vector.ofFn fun i : Fin 10 => if i = 0 then 2000#12 else 2001#12
    s.scanner.guideList ≠ .running ∧ s.restraints.judging = true ∧
    (after (.scanEnd 0 channels) s).restraints.bars[(0 : Fin 8)].state = .locked ∧
    (after (.scanEnd 0 channels) s).restraints.bars[(1 : Fin 8)] =
      ⟨.suspect, some 5300000, .closed, some 2001⟩ ∧
    (after (.latchSettleExpiry 0 1) s).scanner.latches[(0 : Fin 8)] = ⟨true, .closed, none⟩ ∧
    (after (.latchSettleExpiry 0 2) s).restraints.bars[(1 : Fin 8)].state = .suspect ∧
    (after (.latchSettleExpiry 0 3) s).scanner.latches[(2 : Fin 8)] = ⟨false, .closed, none⟩ ∧
    (after (.suspectTimerExpiry 0 2) (withBars true suspectBar tracking)).restraints.bars[(1 : Fin 8)].state = .fault ∧
    (after (.suspectTimerExpiry 0 2) { withBars true suspectBar tracking with nowUs := 4999999 }
      ).restraints.bars[(1 : Fin 8)].state = .suspect := by decide +kernel

/-! ### Witnesses: cues, effects and sound -/

/-- SimpleTimersExpire: each timer at its time and 1 µs or 1 ms before it; a list IDLE with the converter FREE and BUSY,
PENDING, and RUNNING. -/
theorem witness_SimpleTimersExpire :
    let deaf : State := { running with channel := { running.channel with deafDue := some 5000001 } }
    let lists (l : ListState) (due : Option Nat) : State := { steering with scanner := { steering.scanner with
      guideList := .idle, restraintList := l, scanDue := due, timerDue := some 5000000 } }
    let effect (m : EffectMode) : State := { running with cues := { running.cues with
      effects := Vector.replicate 8 m } }
    (after (.retryWaitExpiry 4100) (queued [{ poseFrame with status := .retrying 5004100 }] running)).channel.queue =
      [poseFrame] ∧
    (after (.deafTimerExpiry 1) deaf).channel.deaf = true ∧ (after (.deafTimerExpiry 0) deaf).channel.deaf = false ∧
    (lists .idle none).steering.frameDue = some 5000000 ∧
    (after (.restraintScanTimerExpiry 0) (lists .idle none)).scanner.scanDue = some 5000020 ∧
    (after (.restraintScanTimerExpiry 0) (lists .idle (some 5000010))).scanner.restraintList = .pending ∧
    (after (.restraintScanTimerExpiry 0) (lists .pending (some 5000010))).startUp.counters.scanOverruns = 1 ∧
    (after (.restraintScanTimerExpiry 0) (lists .running (some 5000010))).startUp.counters.scanOverruns = 1 ∧
    (after (.restraintScanTimerExpiry 0) { lists .idle none with nowUs := 4999999 }).scanner.scanDue = none ∧
    (after (.servoFrameStart 0) (lists .running (some 5000010))).scanner.guideList = .pending ∧
    (after (.servoFrameStart 0) (lists .idle none)).scanner.scanDue = some 5000020 ∧
    (after (.standstillTimerExpiry 0) { running with governor := { running.governor with
      standstill := .running 5000000, brake := .off } }).governor.brake = .hold ∧
    (after (.showHoldExpiry 0) { running with cues := { running.cues with hold := .running 5000 } }).cues.hold = .none ∧
    (after (.showHoldExpiry 0) { running with cues := { running.cues with hold := .running 5001 } }).cues.hold =
      .running 5001 ∧
    (after (.effectTimerExpiry 0 8) (effect (.pulse 5000000))).cues.effects[(7 : Fin 8)] = .off ∧
    (after (.effectTimerExpiry 0 8) (effect (.pulse 5000001))).cues.effects[(7 : Fin 8)] = .pulse 5000001 ∧
    (after (.effectTimerExpiry 0 1) (effect (.blink 200 300 true 5000000))).cues.effects[(0 : Fin 8)] =
      .blink 200 300 false 5300000 ∧
    (after (.idleTimerExpiry 0) { running with sound := { running.sound with amp := .muted 5000000 } }).sound.amp =
      .standby := by decide +kernel

/-- VoiceTimersExpire: the spiel on an ACTIVE amplifier, a fade of 5 ms at its end, a locked voice past its end, and an
amplifier that wakes to silence. -/
theorem witness_VoiceTimersExpire :
    let amp (a : Amplifier) (s : State) : State := { s with sound := { s.sound with amp := a } }
    let spiel (s : State) : State := { s with restraints := { s.restraints with spielDue := some 5000000 } }
    let faded (began : Nat) : State := withVoices Voice.clear { playing 1 128 with
      state := .stopping, fade := some ⟨5, began⟩ } Voice.clear running
    let late : State := withVoices Voice.clear { playing 1 128 with
        state := .starting, buffer := none, lock := some ⟨1, 0⟩ } Voice.clear
      { running with cues := { running.cues with clocks := Vector.replicate 15 ⟨43, 5000, true⟩ } }
    (after (.spielRepeatExpiry 0) (spiel (amp .active running))).sound.voices[(0 : Fin 4)].state = .starting ∧
    (after (.spielRepeatExpiry 0) (spiel { running with content := { running.content with check := .bad } })
      ).restraints.spielDue = some 15000000 ∧
    (after (.fadeEnd 0 1) (faded 4995)).sound.voices[(1 : Fin 4)].state = .idle ∧
    (after (.fadeEnd 0 1) (faded 4996)).sound.voices[(1 : Fin 4)].state = .stopping ∧
    expectedPosition late (voiceOf late 1) = some 1032 ∧ clip.samples = 1024 ∧
    (after (.lockedVoiceTick 0 1) late).sound.voices[(1 : Fin 4)].state = .idle ∧
    (after (.wakeTimerExpiry 0) (amp (.waking 5000000) running)).sound.amp = .muted 15240000 := by decide +kernel

/-- OutputPeriodMixesTheVoices: at its time a voice advances by one sample, to the last of its block at most. -/
theorem witness_OutputPeriodMixesTheVoices :
    let s (p : Nat) : State := withVoices Voice.clear { playing 1000 128 with position := p } Voice.clear running
    0 * 125 ≤ running.nowUs * 3 ∧ 254 + 1 < min ((0 + 1) * 256) clip.samples ∧
    (after (.outputPeriod 0) (s 254)).sound.voices[(1 : Fin 4)].position = 255 ∧
    (after (.outputPeriod 0) (s 254)).sound.output = 1000 ∧
    (after (.outputPeriod 0) { s 254 with sound := { (s 254).sound with outputCount := 120001 } }).sound.output = 0 := by
  decide +kernel

/-- The part at 11,700 mm in scene 2, whose clock is valid and stands at 43 ms. -/
def timed : State :=
  { tracking with cues := { tracking.cues with clocks := Vector.replicate 15 ⟨43, 5000, true⟩ } }

/-- RecordsAreJudgedByTheirTriggers, at the odometer 11,700: the expiry at 8,192 mm beyond the mark, a WITHIN window of
4,095 mm, a BEFORE mark, each secondary condition at its boundary and both combinations; then two records that fire in one
evaluation, and one that is late. -/
theorem witness_RecordsAreJudgedByTheirTriggers :
    let judged (compare : CompareType) (mark : Nat) (second : Secondary) (either : Bool) : Judgement :=
      judgeRecord timed ⟨9, mark, .tag, none, some ⟨compare, 5000, second, either, []⟩⟩
    let two := armed [record 1 11700 (some (entry .none [.effect 1 1 0 0])), record 2 11701 (some (entry .none [])),
      record 3 11700 (some (entry .none [.effect 1 0 0 0]))] timed
    let lateOne := armed [record 1 11699 (some (entry .none [.send])), record 2 11701 (some (entry .none []))] timed
    sceneTime timed 2 = some 43 ∧ sceneTime timed 0 = none ∧ sceneTime running 2 = none ∧
    judgeRecord timed (record 9 11700 none) = .stays ∧
    judged .atMark 3508 .none false = .fires ∧ judged .atMark 3507 .none false = .missed ∧
    judged .atMark 11701 .none false = .stays ∧ judged .within 7605 .none false = .fires ∧
    judged .within 7604 .none false = .missed ∧ judged .before 11701 .none false = .fires ∧
    judged .before 11700 .none false = .missed ∧ judged .before 11701 (.slowerThan 400) false = .missed ∧
    judged .atMark 11701 (.slowerThan 401) true = .fires ∧ judged .atMark 11700 (.slowerThan 400) false = .stays ∧
    judged .atMark 11700 (.sceneTime 43) false = .fires ∧ judged .atMark 11700 (.sceneTime 44) false = .stays ∧
    judged .atMark 11700 .pathClear false = .fires ∧
    timed.cues.restraintStop = false ∧ timed.cues.safetyStop = false ∧ timed.content.check = .pass ∧
    judgeRecord two (record 1 11700 (some (entry .none [.effect 1 1 0 0]))) = .fires ∧
    judgeRecord two (record 2 11701 (some (entry .none []))) = .stays ∧
    (evaluate none two).cues.armed = [record 2 11701 (some (entry .none []))] ∧
    (evaluate none two).cues.effects[(0 : Fin 8)] = .off ∧
    (evaluate (some (1, 11699)) lateOne).startUp.counters.lateCues = 1 ∧
    (evaluate none lateOne).startUp.counters.lateCues = 0 ∧ (evaluate none lateOne).channel.queue.length = 1 ∧
    evaluate none { two with cues := { two.cues with safetyStop := true } } =
      { two with cues := { two.cues with safetyStop := true } } := by decide +kernel

/-- RecordsAreJudgedByTheirTriggers: three records fire, a missed one between them, the fresh one of them late. -/
theorem witness_RecordsAreJudgedByTheirTriggers_together :
    let sets (line mode : Nat) : Option CueEntry := some (entry .none [.effect line mode 0 0])
    let s := armed [record 1 11698 (sets 1 1), record 2 3507 (sets 4 1), record 3 11699 (sets 1 0),
      record 4 11700 (sets 2 1), record 5 11701 (sets 3 1)] timed
    let t := evaluate (some (3, 11699)) s
    s.cues.armed.map (judgeRecord s) = [.fires, .missed, .fires, .fires, .stays] ∧
    t.cues.armed = [record 5 11701 (sets 3 1)] ∧
    t.cues.effects = #v[.off, .on, .off, .off, .off, .off, .off, .off] ∧
    t.startUp.counters.missedCues = 1 ∧ t.startUp.counters.lateCues = 1 := by decide +kernel

/-- FiringRecordsPerformTheirActions: each action at the ends of its operands. -/
theorem witness_FiringRecordsPerformTheirActions :
    let r := record 9 11700 none
    let framed : ArmedRecord := ⟨9, 11700, .frame, some (2, 7), none⟩
    let act := performAction r
    let voices (x : Voice) : State := withVoices Voice.clear x Voice.clear timed
    let still : State := { timed with path := { timed.path with speed := 0 } }
    let full (mark : Nat) := armed ((List.range 12).map fun k => record (k + 20) mark none) timed
    timed.startUp.run = .run ∧ timed.content.check = .pass ∧ timed.content.queue.length ≤ 80 ∧
    timed.sound.paused = false ∧ timed.sound.amp = .standby ∧
    (act timed (.play 0 3 128 false true)).startUp.counters.contentErrors = 1 ∧
    (act timed (.play 4 3 128 false true)).startUp.counters.contentErrors = 1 ∧
    (act timed (.play 3 3 128 false true)).sound.voices[(3 : Fin 4)] =
      { Voice.clear with state := .starting, clip := 3, gain := 128, lock := some ⟨2, 43⟩ } ∧
    (performAction framed timed (.play 1 3 128 true true)).sound.voices[(1 : Fin 4)].lock = some ⟨2, 7⟩ ∧
    (act timed (.play 1 3 128 false true)).sound.amp = .waking 5050000 ∧
    (act { timed with sound := { timed.sound with paused := true } } (.play 1 3 128 false false)
      ).sound.voices[(1 : Fin 4)].state = .paused ∧
    (act (voices (playing 1 128)) (.stop 1 5)).sound.voices[(1 : Fin 4)].fade = some ⟨5, 5000⟩ ∧
    (act (voices (playing 1 128)) (.stop 1 0)).sound.voices[(1 : Fin 4)].state = .idle ∧
    (voices Voice.clear).sound.voices[(1 : Fin 4)].state = .idle ∧
    (act timed (.effect 9 1 0 0)).startUp.counters.contentErrors = 1 ∧
    (act timed (.effect 8 4 0 0)).startUp.counters.contentErrors = 1 ∧
    (act timed (.effect 8 3 200 0)).cues.effects[(7 : Fin 8)] = .on ∧
    (act timed (.effect 8 2 200 0)).cues.effects[(7 : Fin 8)] = .pulse 5200000 ∧
    (act timed (.hold 60001)).cues.hold = .pending 60000 ∧ (act timed (.hold 0)).governor.limits.showHold = 0 ∧
    (act still (.hold 0)).governor.limits.showHold = 4000 ∧ (act still (.hold 1)).cues.hold = .running 5001 ∧
    (act (act still (.hold 1)) (.hold 2)).cues.hold = .running 5002 ∧
    (act timed .send).channel.queue.map TxFrame.body = [.cue ⟨9, some (2, 43)⟩] ∧
    (act tracking .send).channel.queue.map TxFrame.body = [.cue ⟨9, none⟩] ∧
    (performAction framed timed .send).startUp.counters.contentErrors = 1 ∧
    (act timed (.arm 0 5)).startUp.counters.contentErrors = 1 ∧ (act timed (.arm 5 0)).startUp.counters.contentErrors = 1 ∧
    (act timed (.arm 5 4095)).cues.armed = [⟨5, 15795, .arm, none, none⟩] ∧
    (full 11705).cues.armed.length = 12 ∧ (full 11705).cues.armed.getLast? = some (record 31 11705 none) ∧
    (act (full 11705) (.arm 5 5)).startUp.counters.cuesLost = 1 ∧
    (act (full 11705) (.arm 5 5)).cues.armed = (full 11705).cues.armed ∧
    (act (full 11706) (.arm 5 5)).cues.armed.head? = some ⟨5, 11705, .arm, none, none⟩ ∧
    (act (full 11706) (.arm 5 5)).cues.armed.length = 12 := by decide +kernel

/-- A read request for each block of `bs`, by `who`, entered as 10, 11 and so on. -/
def requests (who : Requester) (bs : List Nat) : List ReadRequest :=
  bs.zipIdx.map fun (b, k) => ⟨.block b, [⟨who, 10 + k⟩], 10 + k⟩

def contentReader (reader : ReaderState) (queue : List ReadRequest) (last : Nat) : State :=
  { running with content := { running.content with reader := reader, queue := queue, lastVoice := last, serial := 900 } }

/-- RequestsJoinWaitAndAreServed: the read in flight, a queued request and a new one; 95 and 96 requests; a withdrawal that
leaves nobody, and one that leaves a worse class; the service order among the classes and among the voices. -/
theorem witness_RequestsJoinWaitAndAreServed :
    let busy (queue : List ReadRequest) := contentReader (.reading (.block 99) [⟨.voice 1, 1⟩] 5000200) queue 3
    let done (queue : List ReadRequest) (last : Nat) := contentReader (.reading (.block 99) [] 5000000) queue last
    let many (n : Nat) := requests (.pin 1) (List.range n)
    let shared : ReadRequest := ⟨.block 7, [⟨.pin 1, 4⟩, ⟨.voice 2, 5⟩, ⟨.pin 2, 6⟩], 5⟩
    let three := requests (.voice 2) [2] ++ requests (.voice 1) [1] ++ requests (.voice 3) [3]
    let later (s : State) := (after (.readComplete 0 (flat 0)) s).content
    (offerRead (.voice 1) (.block 5) inhibited).2 = false ∧ shared.cls = 3 ∧ shared.waiters ≠ [] ∧
    (offerRead (.voice 2) (.block 99) (busy [])).1.content.reader =
      .reading (.block 99) [⟨.voice 1, 1⟩, ⟨.voice 2, 900⟩] 5000200 ∧
    (offerRead (.voice 1) (.block 99) (busy [])).1.content.reader = .reading (.block 99) [⟨.voice 1, 1⟩] 5000200 ∧
    (offerRead (.voice 0) (.block 7) (busy [shared])).1.content.queue.map ReadRequest.entered = [900] ∧
    (offerRead (.voice 1) (.block 7) (busy [shared])).1.content.queue.map ReadRequest.entered = [5] ∧
    (busy (many 95)).content.queue.length < 96 ∧ (busy (many 96)).content.queue.length = 96 ∧
    (offerRead (.voice 1) (.block 97) (busy (many 95))).1.content.queue.length = 96 ∧
    (offerRead (.voice 1) (.block 97) (busy (many 96))).2 = false ∧
    (offerRead (.voice 1) (.block 97) (busy (many 96))).1.startUp.counters.contentErrors = 1 ∧
    (offerRead (.voice 1) (.block 97) (contentReader .idle [] 3)).1.content.reader =
      .reading (.block 97) [⟨.voice 1, 900⟩] 5000200 ∧
    (offerRead (.voice 1) (.block 97) (contentReader .idle [] 3)).1.content.lastVoice = 1 ∧
    (withdraw (.voice 1) (busy (requests (.voice 1) [8]))).content.queue = [] ∧
    (withdraw (.voice 2) (busy [shared])).content.queue = [⟨.block 7, [⟨.pin 1, 4⟩, ⟨.pin 2, 6⟩], 4⟩] ∧
    (withdraw (.pin 2) (busy [shared])).content.queue = [⟨.block 7, [⟨.pin 1, 4⟩, ⟨.voice 2, 5⟩], 5⟩] ∧
    isUsable (.block 99) (flat 0) = true ∧
    (later (done (requests (.pin 1) [4, 5]) 3)).reader = .reading (.block 4) [⟨.pin 1, 10⟩] 5000200 ∧
    (later (done (requests (.pin 1) [4] ++ requests (.voice 0) [5]) 3)).reader =
      .reading (.block 5) [⟨.voice 0, 10⟩] 5000200 ∧
    ((later (done three 3)).reader, (later (done three 3)).lastVoice) =
      (.reading (.block 1) [⟨.voice 1, 10⟩] 5000200, 1) ∧
    ((later (done three 1)).reader, (later (done three 1)).lastVoice) =
      (.reading (.block 2) [⟨.voice 2, 10⟩] 5000200, 2) := by decide +kernel

def withSet (i : Nat) (c : CacheSet) (s : State) : State :=
  { s with sound := { s.sound with cache := s.sound.cache.setIfInBounds i c } }

/-- CachesAndPinsHoldTheirBlocks, in set 5: an INVALID way, the least recently used VALID one, and none; a refused request;
and a block for a voice and a pin. -/
theorem witness_CachesAndPinsHoldTheirBlocks :
    let cache (a b c d : Slot) (order : List Nat) (s : State) : State := withSet 5 ⟨#v[a, b, c, d], order⟩ s
    let valid (b : Nat) : Slot := .valid b (flat 0)
    let slots (s : State) : List SlotView := [slotAt s 5 0, slotAt s 5 1, slotAt s 5 2, slotAt s 5 3]
    let full := contentReader (.reading (.block 99) [] 5000200) (requests (.pin 1) (List.range 96)) 3
    slots (upkeepBlock 1 (cache (valid 5) .invalid .invalid (valid 37) [0, 1, 2, 3] running) 69) =
      [.valid 5, .filling 69, .invalid, .valid 37] ∧
    slots (upkeepBlock 1 (cache (valid 5) (valid 37) (.filling 101) (valid 133) [2, 3, 1, 0] running) 69) =
      [.valid 5, .valid 37, .filling 101, .filling 69] ∧
    slots (upkeepBlock 1 (cache (valid 5) (valid 37) (valid 101) (valid 133) [0, 1, 2, 3] pinned) 69) =
      [.valid 5, .filling 69, .valid 101, .valid 133] ∧
    slots (upkeepBlock 1 (cache (valid 69) .invalid .invalid .invalid [0, 1, 2, 3] running) 69) =
      [.valid 69, .invalid, .invalid, .invalid] ∧
    slots (upkeepBlock 1 (cache (.filling 5) (.filling 37) (.filling 101) (.filling 133) [0, 1, 2, 3] running) 69) =
      [.filling 5, .filling 37, .filling 101, .filling 133] ∧
    slots (upkeepBlock 1 (cache (valid 5) (valid 37) (valid 101) (valid 133) [0, 1, 2, 3] full) 197) =
      [.invalid, .valid 37, .valid 101, .valid 133] ∧
    (upkeepBlock 1 (cache (valid 5) (valid 37) (valid 101) (valid 133) [0, 1, 2, 3] full) 197
      ).startUp.counters.contentErrors = 1 ∧
    slots (upkeepBlock 1 (cache (valid 5) (valid 37) (valid 101) (valid 133) [0, 1, 2, 3] inhibited) 69) =
      [.invalid, .valid 37, .valid 101, .valid 133] ∧
    slots (writeBlock 69 (flat 0) (cache (.filling 69) (.filling 69) (valid 101) .invalid [0, 1, 2, 3] running)) =
      [.valid 69, .valid 69, .valid 101, .invalid] ∧
    slots (writeBlock 69 (flat 0) (cache (.filling 69) (.filling 69) (valid 101) .invalid [0, 1, 2, 3] pinned)) =
      [.valid 69, .invalid, .valid 101, .invalid] ∧
    slots (invalidateCache (cache (valid 5) (.filling 69) (valid 101) .invalid [0, 1, 2, 3] pinned)) =
      [.valid 5, .invalid, .invalid, .invalid] := by decide +kernel

/-- CachesAndPinsHoldTheirBlocks: clip 511 and 512, an empty place, the second place and no place; and what an UNPIN leaves. -/
theorem witness_CachesAndPinsHoldTheirBlocks_pins :
    let cache (a b c d : Slot) (order : List Nat) (s : State) : State := withSet 5 ⟨#v[a, b, c, d], order⟩ s
    let valid (b : Nat) : Slot := .valid b (flat 0)
    let slots (s : State) : List SlotView := [slotAt s 5 0, slotAt s 5 1, slotAt s 5 2, slotAt s 5 3]
    let twoPins : State := { running with sound := { running.sound with
      pins := #v[some ⟨4, some clip, .held⟩, some ⟨7, none, .entry⟩] } }
    (pinClip 512 running).startUp.counters.contentErrors = 1 ∧ (unpinClip 512 running).startUp.counters.contentErrors = 1 ∧
    (pinClip 4 pinned).startUp.counters.contentErrors = 1 ∧ (pinClip 5 twoPins).startUp.counters.contentErrors = 1 ∧
    (pinClip 511 running).sound.pins = #v[some ⟨511, none, .entry⟩, none] ∧
    (pinClip 511 pinned).sound.pins = #v[some ⟨4, some clip, .held⟩, some ⟨511, none, .entry⟩] ∧
    (pinClip 511 running).content.reader = .reading (.clipEntry 511) [⟨.pin 1, running.content.serial⟩] 5000020 ∧
    (∀ v : Fin 4, wants pinned v.val = []) ∧
    (unpinClip 4 (cache (.filling 5) (.filling 5) (valid 101) .invalid [0, 1, 2, 3] pinned)).sound.pins = #v[none, none] ∧
    slots (unpinClip 4 (cache (.filling 5) (.filling 5) (valid 101) .invalid [0, 1, 2, 3] pinned)) =
      [.invalid, .filling 5, .valid 101, .invalid] ∧
    slots (unpinClip 4 (cache (valid 5) (.filling 5) (valid 101) .invalid [0, 1, 2, 3] pinned)) =
      [.valid 5, .filling 5, .valid 101, .invalid] := by decide +kernel

/-- CachesAndPinsHoldTheirBlocks: PIN and UNPIN are ignored, and not counted, outside RUN and with bad content. -/
theorem witness_CachesAndPinsHoldTheirBlocks_ignored :
    let bad : State := { pinned with content := { pinned.content with check := .bad } }
    (pinClip 512 inhibited).startUp.counters.contentErrors = 0 ∧ (pinClip 5 inhibited).sound.pins = #v[none, none] ∧
    (pinClip 4 bad).startUp.counters.contentErrors = 0 ∧ (unpinClip 512 bad).startUp.counters.contentErrors = 0 ∧
    (unpinClip 4 bad).sound.pins = pinned.sound.pins := by decide +kernel

/-- A block whose bytes begin with `bs`. -/
def blockOf (bs : List Nat) : BlockData :=
  Vector.ofFn fun i : Fin 512 => byteOf (bs.getD i.val 0)

/-- ReadsReachVoicesAndPins: the start block of a voice, the needed block of one that waits, a clip entry good and unusable
for a voice and for a pin, and the last and last but one block of a pin. -/
theorem witness_ReadsReachVoicesAndPins :
    let reads (target : Target) (who : Requester) (s : State) : State := { s with
      content := { s.content with reader := .reading target [⟨who, 3⟩] 5000000 } }
    let got (data : BlockData) (s : State) := after (.readComplete 0 data) s
    let starting : Voice := { playing 0 128 with state := .starting, buffer := none, startBlock := some 0 }
    let waiting : Voice := { playing 0 128 with waiting := true, position := 256 }
    let voices (x : Voice) (b : Nat) : State := withSet b (CacheSet.reset.putSlot 2 (.filling b))
      (withVoices Voice.clear x Voice.clear running)
    let asleep (x : Voice) : State := { withVoices Voice.clear x Voice.clear running with sound := {
      (withVoices Voice.clear x Voice.clear running).sound with amp := .waking 5000100 } }
    let pin (p : Pin) (left : Nat) : State := { running with sound := { running.sound with
      pins := #v[some p, none]
      cache := Vector.ofFn fun i : Fin 32 => CacheSet.reset.putSlot 0 (if i.val < left then .filling i.val else .invalid) } }
    let played (s : State) : Option (Nat × Int) :=
      s.sound.voices[(1 : Fin 4)].buffer.map fun p => (p.block, sampleAt p.data 0)
    let good := blockOf [0, 2, 0, 33, 255, 0, 0, 0]
    let e : ClipEntry := ⟨2, 33, 256, false⟩
    clipEntryOf good = some e ∧ clipEntryOf (blockOf []) = none ∧ 2 + min 32 e.length = 34 ∧
    (got (flat 7) (reads (.block 0) (.voice 1) (voices starting 0))).sound.voices[(1 : Fin 4)].state = .playing ∧
    played (got (flat 7) (reads (.block 0) (.voice 1) (voices starting 0))) = some (0, 7) ∧
    played (got (flat 7) (reads (.block 1) (.voice 1) (voices waiting 1))) = some (1, 7) ∧
    (got (flat 7) (reads (.block 1) (.voice 1) (voices waiting 1))).sound.voices[(1 : Fin 4)].waiting = false ∧
    (got good (reads (.clipEntry 0) (.voice 1) (asleep { starting with entry := none, startBlock := none }))
      ).sound.voices[(1 : Fin 4)].entry = some e ∧
    (got (blockOf []) (reads (.clipEntry 0) (.voice 1) (asleep { starting with entry := none, startBlock := none }))
      ).sound.voices[(1 : Fin 4)].state = .idle ∧
    (got (flat 7) (reads (.block 0) (.pin 1) (pin ⟨4, some clip, .filling⟩ 1))).sound.pins[(0 : Fin 2)] =
      some ⟨4, some clip, .held⟩ ∧
    (got (flat 7) (reads (.block 0) (.pin 1) (pin ⟨4, some clip, .filling⟩ 2))).sound.pins[(0 : Fin 2)] =
      some ⟨4, some clip, .filling⟩ ∧
    (got good (reads (.clipEntry 4) (.pin 1) (pin ⟨4, none, .entry⟩ 0))).sound.pins[(0 : Fin 2)] =
      some ⟨4, some e, .filling⟩ ∧
    slotAt (got good (reads (.clipEntry 4) (.pin 1) (pin ⟨4, none, .entry⟩ 0))) 1 0 = .filling 33 ∧
    (got good (reads (.clipEntry 4) (.pin 1) (pin ⟨4, none, .entry⟩ 0))).content.queue.length = 31 ∧
    (got (blockOf []) (reads (.clipEntry 4) (.pin 1) (pin ⟨4, none, .entry⟩ 0))).sound.pins[(0 : Fin 2)] = none := by
  decide +kernel

def reading (ws : List Waiter) (s : State) : State :=
  { s with content := { s.content with reader := .reading (.cueEntry 9) ws 5000000 } }

/-- ReadsAndSceneTimesReachTheRecords: a read nobody waits for, an unusable entry (no actions), a usable one while
suspended, and a SCENE_TIME record whose time has come. -/
theorem witness_ReadsAndSceneTimesReachTheRecords :
    let waiting := armed [record 1 11700 none, record 9 11800 none] (reading [⟨.record 9 11800, 0⟩] tracking)
    let good := blockOf [0, 1, 0, 0, 0, 0, 0, 0, 7]
    let timed : State := armed [⟨3, 20000, .frame, some (2, 0), some { entry (.sceneTime 43) [.send] with either := true }⟩,
        record 4 9000 (some { entry .none [.send] with compare := .before })]
      { tracking with cues := { tracking.cues with clocks := Vector.replicate 15 ⟨43, 5000, true⟩ } }
    isUsable (.cueEntry 9) (blockOf []) = false ∧ cueEntryOf good = some (entry .none [.send]) ∧
    (after (.readComplete 0 good) (reading [] tracking)).content.reader = .idle ∧
    (after (.readComplete 0 (blockOf [])) waiting).cues.armed = [record 1 11700 none] ∧
    (after (.readComplete 0 (blockOf [])) waiting).startUp.counters.contentErrors = 1 ∧
    (after (.readComplete 0 good) { waiting with cues := { waiting.cues with safetyStop := true } }).cues.armed =
      [record 1 11700 none, record 9 11800 (some (entry .none [.send]))] ∧
    sceneTime timed 2 = some 43 ∧
    (after (.sceneTimeReached 0 2) timed).startUp.counters.missedCues = 1 ∧
    (after (.sceneTimeReached 0 2) timed).cues.armed = [] := by decide +kernel

/-! ### Witnesses: voices at their boundaries -/

/-- What a test compares of a voice: all but its sound. `block` is the block in its play buffer. -/
structure Heard where
  state : VoiceState
  position : Nat
  block : Option Nat
  waiting : Bool
  trim : Option Trim
  jump : Bool
  deriving DecidableEq, Repr

def heard (s : State) (v : Fin 4) : Heard :=
  let x := s.sound.voices[v]
  ⟨x.state, x.position, x.buffer.map PlayBuffer.block, x.waiting, x.trim, x.jump⟩

/-- A part in RUN with voice 1 alone, the amplifier ACTIVE and the clock of scene 2 at 43 ms. -/
def voiced (x : Voice) : State := withVoices Voice.clear x Voice.clear timed

/-- Block `b` stands in way 1 of its set, and nothing else does. -/
def resident (b : Nat) (s : State) : State :=
  withSet (b % 32) (CacheSet.reset.putSlot 1 (.valid b (flat 5))) s

/-- Voice 1 with its last block in the play buffer, at the last sample of its clip of 1,024. -/
def atEnd (loop jump : Bool) (lock : Option SceneLock) : Voice :=
  { playing 1 128 with
    position := 1023, buffer := some ⟨3, flat 1⟩, loop := loop, jump := jump, lock := lock }

/-- OutputPeriodMixesTheVoices at the boundaries: the next block resident and not; the end of a clip without loop and with
it; a STOPPING voice; and each trim at its 63rd and 64th sample. -/
theorem witness_OutputPeriodMixesTheVoices_boundaries :
    let out (x : Voice) (b : Nat) : State := after (.outputPeriod 0) (resident b (voiced x))
    let last : Voice := { playing 1 128 with position := 255 }
    let trimmed (t : Trim) : Voice := { playing 1 128 with position := 10, trim := some t }
    (copiesOf (resident 1 (voiced last)) 1).map (fun p => p.1.val) = [1] ∧ (copiesOf (resident 9 (voiced last)) 1).isEmpty = true ∧
    heard (out last 1) 1 = ⟨.playing, 256, some 1, false, none, false⟩ ∧ (out last 1).sound.underrun = none ∧
    heard (out last 9) 1 = ⟨.playing, 256, some 0, true, none, false⟩ ∧
    (out last 9).sound.underrun = some ⟨1, 0, 1⟩ ∧ (out last 9).startUp.counters.underruns = #v[0, 1, 0, 0] ∧
    heard (out (atEnd false false none) 0) 1 = ⟨.idle, 0, none, false, none, false⟩ ∧
    heard (out (atEnd true false none) 0) 1 = ⟨.playing, 0, some 0, false, none, false⟩ ∧
    heard (out { trimmed ⟨false, 6, 0⟩ with state := .stopping, trim := none, fade := some ⟨9, 4999⟩ } 0) 1 =
      ⟨.stopping, 11, some 0, false, none, false⟩ ∧
    heard (out (trimmed ⟨false, 6, 62⟩) 0) 1 = ⟨.playing, 11, some 0, false, some ⟨false, 6, 63⟩, false⟩ ∧
    heard (out (trimmed ⟨false, 6, 63⟩) 0) 1 = ⟨.playing, 10, some 0, false, some ⟨false, 5, 64⟩, false⟩ ∧
    heard (out (trimmed ⟨true, 1, 63⟩) 0) 1 = ⟨.playing, 12, some 0, false, none, false⟩ := by decide +kernel

/-- OutputPeriodMixesTheVoices: a pending jump at a block's end to the last block and to sample 0, to the end of the clip
exactly, and to 1 ms before its start. -/
theorem witness_OutputPeriodMixesTheVoices_jumps :
    let out (x : Voice) (b : Nat) : State := after (.outputPeriod 0) (resident b (voiced x))
    let jumps (start : Nat) : Voice := { atEnd false true (some ⟨2, start⟩) with
      position := 255, buffer := some ⟨0, flat 1⟩, entry := some ⟨0, 4, 240, false⟩ }
    sceneTime timed 2 = some 43 ∧ ClipEntry.samples ⟨0, 4, 240, false⟩ = 1008 ∧
    startPlace timed (jumps 2) ⟨0, 4, 240, false⟩ = 984 ∧ startPlace timed (jumps 1) ⟨0, 4, 240, false⟩ = 1008 ∧
    startPlace timed (jumps 43) ⟨0, 4, 240, false⟩ = 0 ∧ startPlace timed (jumps 44) ⟨0, 4, 240, false⟩ = -24 ∧
    heard (out (jumps 2) 3) 1 = ⟨.playing, 984, some 3, false, none, false⟩ ∧
    heard (out (jumps 2) 1) 1 = ⟨.playing, 984, some 0, true, none, false⟩ ∧
    (out (jumps 2) 1).sound.underrun = some ⟨1, 0, 3⟩ ∧
    heard (out (jumps 43) 0) 1 = ⟨.playing, 0, some 0, false, none, false⟩ ∧
    heard (out (jumps 1) 0) 1 = ⟨.idle, 0, none, false, none, false⟩ ∧
    heard (out (jumps 44) 0) 1 = ⟨.starting, 256, none, false, none, false⟩ ∧
    (out (jumps 44) 0).sound.voices[(1 : Fin 4)].startBlock = some 0 := by decide +kernel

/-- A SYNC for scene 2 that says 43 ms, which puts a voice locked at 22 ms to sample 504. -/
def synced (s : State) : State := after (.syncReceived 0 (frame 48 0 3 1 [2, 0, 0, 0, 43])) s

/-- Voice 1, locked to scene 2 from `start` on, at `position` of `entry`. -/
def lockedAt (start position : Nat) (entry : ClipEntry) : Voice :=
  { playing 1 128 with position := position, entry := some entry, lock := some ⟨2, start⟩ }

/-- SceneClocksFollowSync, the drift test: 24 and 25 samples ahead and behind, 1,200 and 1,201 ahead, the expected position
at the end of the clip and before its start, and a drift that a loop takes the other way round. -/
theorem witness_SceneClocksFollowSync_drift :
    let test (x : Voice) : Heard := heard (synced (voiced x)) 1
    let long : ClipEntry := ⟨0, 20, 256, false⟩
    let old : Option Trim := some ⟨true, 9, 7⟩
    judgeFrame timed (frame 48 0 3 1 [2, 0, 0, 0, 43]) =
      .accepted (raw 48 0 3 1 [2, 0, 0, 0, 43]) (.sync ((1 : Fin 15).val + 1) 43) ∧
    test { lockedAt 22 528 long with trim := old, jump := true } = ⟨.playing, 528, some 0, false, none, false⟩ ∧
    test { lockedAt 22 480 long with trim := old } = ⟨.playing, 480, some 0, false, none, false⟩ ∧
    test (lockedAt 22 529 long) = ⟨.playing, 529, some 0, false, some ⟨false, 1, 0⟩, false⟩ ∧
    test (lockedAt 22 479 long) = ⟨.playing, 479, some 0, false, some ⟨true, 1, 0⟩, false⟩ ∧
    test (lockedAt 22 1704 long) = ⟨.playing, 1704, some 0, false, some ⟨false, 1176, 0⟩, false⟩ ∧
    test { lockedAt 22 1705 long with trim := old } = ⟨.playing, 1705, some 0, false, none, true⟩ ∧
    ClipEntry.samples ⟨0, 2, 248, false⟩ = 504 ∧ test (lockedAt 22 9 ⟨0, 2, 248, false⟩) = ⟨.idle, 0, none, false, none, false⟩ ∧
    test (lockedAt 44 9 long) = ⟨.starting, 9, none, false, none, false⟩ ∧
    test { lockedAt 22 1023 clip with loop := true } = ⟨.playing, 1023, some 0, false, some ⟨true, 481, 0⟩, false⟩ ∧
    test { lockedAt 22 9 clip with lock := some ⟨3, 22⟩ } = ⟨.playing, 9, some 0, false, none, false⟩ := by decide +kernel

/-- SceneClocksFollowSync: a voice that waits and is 1,201 samples ahead jumps at once, its block resident and not. -/
theorem witness_SceneClocksFollowSync_waiting :
    let t (b : Nat) : State :=
      synced (resident b (voiced { lockedAt 22 1705 ⟨0, 20, 256, false⟩ with waiting := true }))
    (copiesOf (resident 1 timed) 1).map (fun p => p.1.val) = [1] ∧ (copiesOf (resident 9 timed) 1).isEmpty = true ∧
    heard (t 1) 1 = ⟨.playing, 504, some 1, false, none, false⟩ ∧ (t 1).sound.underrun = none ∧
    heard (t 9) 1 = ⟨.playing, 504, some 0, true, none, false⟩ ∧ (t 9).sound.underrun = some ⟨1, 0, 1⟩ ∧
    (t 9).startUp.counters.underruns = #v[0, 1, 0, 0] := by decide +kernel

/-- A voice in STARTING with its entry, at `position`. -/
def starts (position : Nat) : Voice :=
  { playing 1 128 with state := .starting, buffer := none, position := position, startBlock := some (position / 256) }

/-- VoiceTimersExpire, the tick of a locked voice: at expected position 0 with its block resident, with the amplifier not
ACTIVE, 1 ms before its start, and when its start block changes to one that is not resident. -/
theorem witness_VoiceTimersExpire_tick :
    let tick (start : Nat) (block : Option Nat) (amp : Amplifier) : State :=
      let s := resident 0 (voiced { starts 0 with lock := some ⟨2, start⟩, startBlock := block })
      after (.lockedVoiceTick 0 1) { s with sound := { s.sound with amp := amp } }
    let block (s : State) : Option Nat := s.sound.voices[(1 : Fin 4)].startBlock
    heard (tick 43 (some 0) .active) 1 = ⟨.playing, 0, some 0, false, none, false⟩ ∧
    heard (tick 43 (some 0) (.waking 6000000)) 1 = ⟨.starting, 0, none, false, none, false⟩ ∧
    heard (tick 44 (some 0) .active) 1 = ⟨.starting, 0, none, false, none, false⟩ ∧
    (tick 44 (some 0) .active).content.reader = .idle ∧
    startPlace timed { starts 0 with lock := some ⟨2, 32⟩ } clip = 264 ∧
    heard (tick 32 (some 0) .active) 1 = ⟨.starting, 0, none, false, none, false⟩ ∧
    block (tick 32 (some 0) .active) = some 1 ∧ slotAt (tick 32 (some 0) .active) 1 0 = .filling 1 ∧
    (tick 32 (some 0) .active).content.queue.map ReadRequest.target = [.block 2, .block 3] := by decide +kernel

/-- Set 0 with `a` in way 0 and three blocks that nobody wants filling the others, so that any upkeep takes way 0. -/
def crowded (a : Slot) (s : State) : State :=
  withSet 0 ⟨#v[a, .filling 64, .filling 96, .filling 128], [0, 1, 2, 3]⟩ s

/-- Voice 1 wants block 32, which is not resident, and voice 2 wants block 0. -/
def rivals (two : Voice) (s : State) : State :=
  withVoices Voice.clear { starts 0 with entry := some ⟨32, 4, 256, false⟩ } two s

/-- VoiceTimersExpire, the start of waiting voices: voice 2 plays, though the upkeep of voice 1 takes its slot. -/
theorem witness_VoiceTimersExpire_wake :
    let asleep : State := crowded (.valid 0 (flat 5)) (rivals (starts 0) timed)
    let t := after (.wakeTimerExpiry 0) { asleep with sound := { asleep.sound with amp := .waking 5000000 } }
    heard t 1 = ⟨.starting, 0, none, false, none, false⟩ ∧ heard t 2 = ⟨.playing, 0, some 0, false, none, false⟩ ∧
    t.sound.amp = .active ∧ slotAt t 0 0 = .filling 32 := by decide +kernel

/-- ReadsReachVoicesAndPins: block 0 arrives for a pin; voice 2, in STARTING or waiting for it, proceeds, though the upkeep
of voice 1 then takes the slot it came in. -/
theorem witness_ReadsReachVoicesAndPins_rivals :
    let t (two : Voice) : State :=
      let s := crowded (.filling 0) (rivals two timed)
      after (.readComplete 0 (flat 7)) { s with content := { s.content with
        reader := .reading (.block 0) [⟨.pin 1, 3⟩] 5000000 } }
    let waiting : Voice := { playing 1 128 with position := 0, buffer := some ⟨3, flat 1⟩, waiting := true }
    heard (t (starts 0)) 2 = ⟨.playing, 0, some 0, false, none, false⟩ ∧ slotAt (t (starts 0)) 0 0 = .filling 32 ∧
    heard (t waiting) 2 = ⟨.playing, 0, some 0, false, none, false⟩ ∧ slotAt (t waiting) 0 0 = .filling 32 := by
  decide +kernel

/-! ### Witnesses: suspension -/

/-- Voice 1 plays, voice 2 fades, the amplifier is ACTIVE, the lines are ON and their fault levels are those of lines 1
and 8. -/
def showing : State :=
  { withVoices Voice.clear { playing 1 128 with position := 9 }
      { playing 1 128 with state := .stopping, fade := some ⟨9, 4999⟩ } timed with
    startUp := { timed.startUp with config := some { config with effectFaults := 0x81#8 } }
    cues := { timed.cues with effects := Vector.replicate 8 .on } }

/-- Voice 1 is PAUSED as `showing` leaves it, the show paused. -/
def pausedShow (s : State) : State :=
  let t := withVoices Voice.clear { playing 1 128 with state := .paused, position := 9, buffer := none } Voice.clear s
  { t with sound := { t.sound with paused := true, amp := .standby } }

/-- SafetyStopsActAtOnce: an open chain suspends the show; a second cause leaves it as it is. -/
theorem witness_SafetyStopsActAtOnce_suspension :
    let t := after (.chainOpen 0) showing
    let s := stopped ⟨false, false, false, true, false, false⟩ (pausedShow timed)
    ¬Suspended showing ∧ showing.sound.paused = false ∧
    heard t 1 = ⟨.paused, 9, none, false, none, false⟩ ∧ heard t 2 = ⟨.idle, 0, none, false, none, false⟩ ∧
    t.sound.paused = true ∧ t.sound.amp = .muted 15240000 ∧
    t.cues.effects = #v[.on, .off, .off, .off, .off, .off, .off, .on] ∧
    Suspended s ∧ heard (after (.chainOpen 0) s) 1 = heard s 1 := by
  unfold Suspended
  decide +kernel

/-- ResumeLiftsRideWhenNoCauseIsLeft: the stop that ends ends the suspension, voice 1 starting again; a restraint stop keeps
the show paused. -/
theorem witness_ResumeLiftsRideWhenNoCauseIsLeft_suspension :
    let s := stopped ⟨true, false, false, false, false, false⟩ (pausedShow timed)
    let t := after (.resume 0 (frame 48 5 9 1 [1])) s
    let u := after (.resume 0 (frame 48 5 9 1 [1])) { s with cues := { s.cues with restraintStop := true } }
    s.cues.safetyStop = true ∧ s.cues.restraintStop = false ∧
    heard t 1 = ⟨.starting, 9, none, false, none, false⟩ ∧ t.sound.paused = false ∧ t.sound.amp = .waking 5050000 ∧
    t.content.reader = .reading (.block 0) [⟨.voice 1, 0⟩] 5000200 ∧
    heard u 1 = ⟨.paused, 9, none, false, none, false⟩ ∧ u.sound.paused = true := by decide +kernel

/-- RestraintsAreJudgedAtTheirEvents: the first restraint in FAULT suspends the show and starts the spiel, and a second
changes neither. -/
theorem witness_RestraintsAreJudgedAtTheirEvents_stop :
    let t := after (.suspectTimerExpiry 0 2) (withBars true suspectBar showing)
    let faulty := withBars true suspectBar (pausedShow timed)
    let second : State := { faulty with
      restraints := { faulty.restraints with bars := faulty.restraints.bars.set 0 ⟨.fault, none, .opened, some 2500⟩ }
      cues := { faulty.cues with restraintStop := true } }
    (withBars true suspectBar showing).anyBarFault = false ∧ showing.content.queue.length ≤ 80 ∧
    heard t 0 = ⟨.starting, 0, none, false, none, false⟩ ∧ t.sound.voices[(0 : Fin 4)].clip = 3 ∧
    t.content.reader = .reading (.clipEntry 3) [⟨.voice 0, 0⟩] 5000020 ∧ t.sound.amp = .active ∧
    heard t 1 = ⟨.paused, 9, none, false, none, false⟩ ∧ t.restraints.spielDue = some 15000000 ∧
    t.cues.effects = #v[.on, .off, .off, .off, .off, .off, .off, .on] ∧
    second.anyBarFault = true ∧ heard (after (.suspectTimerExpiry 0 2) second) 0 = heard second 0 ∧
    heard (after (.suspectTimerExpiry 0 2) second) 1 = heard second 1 := by decide +kernel

/-- ClearRemovesFaultsWhoseConditionEnded: RESTRAINT cleared ends the suspension, and voice 1 starts again. -/
theorem witness_ClearRemovesFaultsWhoseConditionEnded_suspension :
    let s := withBars true (faultBar .closed) (pausedShow timed)
    let barred : State := { s with
      restraints := { s.restraints with spielDue := some 9000000 }
      cues := { s.cues with restraintStop := true }
      startUp := { s.startUp with faults := { s.startUp.faults with restraint := true } }
      governor := { s.governor with limits := { s.governor.limits with restraint := 0 } } }
    let t := after (.clearFaults 0 (frame 48 0 7 1 [1, 0, 32])) barred
    Suspended barred ∧ ¬Suspended t ∧ heard t 1 = ⟨.starting, 9, none, false, none, false⟩ ∧
    t.sound.paused = false := by
  unfold Suspended
  decide +kernel

/-! ### Witnesses: cue entries asked for, and claims kept -/

/-- CueFramesArmTheirCue and FiringRecordsPerformTheirActions: cue 9 joins the read of its entry in flight, with the queue
full; refused by a full queue, it is lost with one content error. -/
theorem witness_CueFramesArmTheirCue_requests :
    let cue := raw 48 0 2 1 [9, 0]
    let many := requests (.pin 1) (List.range 96)
    let t (target : Target) : State := after (.cueReceived 0 (frame 48 0 2 1 [9, 0]))
      (contentReader (.reading target [⟨.record 9 7, 3⟩] 5000020) many 3)
    judgeFrame running (frame 48 0 2 1 [9, 0]) = .accepted cue (.cue ⟨9, none⟩) ∧ many.length = 96 ∧
    (t (.block 99)).cues.armed = [] ∧ (t (.block 99)).startUp.counters.contentErrors = 1 ∧
    (t (.block 99)).startUp.counters.cuesLost = 1 ∧
    (t (.cueEntry 9)).cues.armed = [⟨9, 0, .frame, none, none⟩] ∧
    (t (.cueEntry 9)).content.reader = .reading (.cueEntry 9) [⟨.record 9 7, 3⟩, ⟨.record 9 0, 900⟩] 5000020 ∧
    (after (.cueReceived 0 (frame 48 0 2 1 [9, 0])) running).content.reader =
      .reading (.cueEntry 9) [⟨.record 9 0, 0⟩] 5000020 ∧
    (performAction (record 1 0 none) running (.arm 9 5)).content.reader =
      .reading (.cueEntry 9) [⟨.record 9 5, 0⟩] 5000020 := by decide +kernel

/-- ReadsAndSceneTimesReachTheRecords: an entry that arrives with its mark 100 mm ahead, at the odometer, and 1 mm behind. -/
theorem witness_ReadsAndSceneTimesReachTheRecords_evaluation :
    let good := blockOf [0, 1, 0, 0, 0, 0, 0, 0, 7]
    let t (mark : Nat) : State :=
      after (.readComplete 0 good) (armed [record 9 mark none] (reading [⟨.record 9 mark, 0⟩] tracking))
    (t 11800).cues.armed = [record 9 11800 (some (entry .none [.send]))] ∧ (t 11800).channel.queue = [] ∧
    (t 11700).cues.armed = [] ∧ (t 11700).channel.queue.map TxFrame.body = [.cue ⟨9, none⟩] ∧
    (t 11700).startUp.counters.lateCues = 0 ∧ (t 11699).startUp.counters.lateCues = 1 ∧
    (t 11699).channel.queue.length = 1 ∧ (t 11699).content.reader = .idle := by decide +kernel

/-- LaterTagIsJudgedByTheWindow: a refresh tag that leaves the hold list keeps the claim for its next item in LISTEN, though
the claim window has just ended. -/
theorem witness_LaterTagIsJudgedByTheWindow_claim :
    let t := after (.tagRecord 0 0 (tag 8 2088 1068 300 0 2)) claiming
    (goodTag (tag 8 2088 1068 300 0 2)).map (fun g => (g.here, g.next)) = some (item 40 2, item 44 1) ∧
    claiming.elapsedSince 4700 = claiming.cfg.claimWindow * claiming.cfg.announcePeriod ∧
    t.path.lastTag = some 8 ∧ t.zone.hold = claiming.zone.hold ∧ t.zone.claim = claiming.zone.claim := by
  decide +kernel

/-! ### Witnesses: claims that start, and evaluations -/

/-- Whether a record at `mark` that sends its cue when `second` holds fires at the command `c`. -/
def firesAt (mark : Nat) (second : Secondary) (c : Instr) (s : State) : Bool :=
  let t := after c (armed [record 9 mark (some (entry second [.send]))] s)
  t.cues.armed.isEmpty && t.channel.queue.any fun f => f.body == .cue ⟨9, none⟩

/-- EncEdgeMeasuresTravelAndSpeed: at 11,701 mm exactly the item whose release mark that is leaves a full hold list, and the
claim for the next item starts; with every mark still ahead the list and the absence of a claim stay. -/
theorem witness_EncEdgeMeasuresTravelAndSpeed_release :
    let s (mark : Nat) : State := { tracking with
      path := { tracking.path with remainder := 250 }
      zone := { tracking.zone with
        hold := [⟨item 36 2, some 11702⟩, ⟨item 32 2, some mark⟩, ⟨item 28 2, some 11800⟩, ⟨item 40 2, none⟩] } }
    let t := after (.encEdge 0) (s 11701)
    t.path.odometer = 11701 ∧ t.zone.hold = [⟨item 36 2, some 11702⟩, ⟨item 28 2, some 11800⟩, ⟨item 40 2, none⟩] ∧
    t.zone.claim = some ⟨item 44 1, .listen 5000 []⟩ ∧ (after (.encEdge 0) (s 11702)).zone = (s 11702).zone := by
  decide +kernel

/-- EncEdgeMeasuresTravelAndSpeed: an odometer update that reaches the mark of a record fires it and one short of it does not;
a capture that takes the speed from 400 to 200 mm/s fires a record for less than 300, with and without an update. -/
theorem witness_EncEdgeMeasuresTravelAndSpeed_evaluation :
    let s (remainder : Nat) (capture : Option CaptureReference) : State := { tracking with path := { tracking.path with
      remainder := remainder, capture := capture } }
    let last : Option CaptureReference := some ⟨5000000, 1⟩
    firesAt 11701 .none (.encEdge 0) (s 250 none) = true ∧ firesAt 11702 .none (.encEdge 0) (s 250 none) = false ∧
    (after (.encEdge 7500) (s 0 last)).path.speed = 200 ∧ (after (.encEdge 7500) (s 0 last)).path.odometer = 11700 ∧
    firesAt 11700 (.slowerThan 300) (.encEdge 7500) (s 0 last) = true ∧
    firesAt 11701 (.slowerThan 300) (.encEdge 7500) (s 250 last) = true ∧
    firesAt 11700 (.slowerThan 200) (.encEdge 7500) (s 0 last) = false := by decide +kernel

/-- BoundaryCrossingMovesTheWindow: the crossing into a held item fires a record at the boundary mark. -/
theorem witness_BoundaryCrossingMovesTheWindow_evaluation :
    let s : State := { tracking with
      path := { tracking.path with odometer := 11999, remainder := 250 }
      zone := { tracking.zone with hold := tracking.zone.hold ++ [⟨item 44 1, none⟩] } }
    s.holds (item 44 1) = true ∧ s.path.capture = none ∧ firesAt 12000 .none (.encEdge 0) s = true ∧
    firesAt 12001 .none (.encEdge 0) s = false := by decide +kernel

/-- CaptureOverflowIsStandstill: the capture of 0 fires a record for less than 1 mm/s, and not 1 µs earlier. -/
theorem witness_CaptureOverflowIsStandstill_evaluation :
    let s : State := { tracking with path := { tracking.path with overflowDue := some 5065535 } }
    firesAt 11700 (.slowerThan 1) (.captureOverflow 65535) s = true ∧
    firesAt 11700 (.slowerThan 1) (.captureOverflow 65534) s = false := by decide +kernel

/-- LaterTagIsJudgedByTheWindow: a refresh tag whose next item is not held starts the claim for it, with the list as it was
and with an abandoned item taken off it; it ends a claim for what is no longer wanted, and fires a record at its mark. -/
theorem witness_LaterTagIsJudgedByTheWindow_wanted :
    let c : Instr := .tagRecord 0 0 (tag 8 2088 1068 300 0 2)
    let s (more : List HeldItem) (claim : Option Claim) : State := { tracking with zone := { tracking.zone with
      hold := more ++ tracking.zone.hold, claim := claim } }
    let t (more : List HeldItem) (claim : Option Claim) : State := after c (s more claim)
    (t [] none).zone.claim = some ⟨item 44 1, .listen 5000 []⟩ ∧ (t [] none).zone.hold = [⟨item 40 2, none⟩] ∧
    (t [⟨item 60 2, none⟩] none).zone.claim = some ⟨item 44 1, .listen 5000 []⟩ ∧
    (t [⟨item 60 2, none⟩] none).zone.hold = [⟨item 40 2, none⟩] ∧
    (t [] (some ⟨item 52 0, .waiting⟩)).zone.claim = some ⟨item 44 1, .listen 5000 []⟩ ∧
    firesAt 11700 .none c (s [] none) = true ∧ firesAt 11701 .none c (s [] none) = false := by decide +kernel

/-- LaterTagIsJudgedByTheWindow: a tag that abandons an item tests the claim that stays, which is ready and completes. -/
theorem witness_LaterTagIsJudgedByTheWindow_tested :
    let s : State := { claiming with zone := { claiming.zone with
      hold := [⟨item 60 2, none⟩, ⟨item 40 2, none⟩] } }
    let t := after (.tagRecord 0 0 (tag 8 2088 1068 300 0 2)) s
    t.zone.hold = [⟨item 40 2, none⟩, ⟨item 44 1, none⟩] ∧ t.zone.claim = none := by decide +kernel

/-- PoseSetsTheNeighbourEntry: an accepted POSE evaluates, so that a record at its mark fires. -/
theorem witness_PoseSetsTheNeighbourEntry_evaluation :
    firesAt 11700 .none (.poseReceived 0 (frame 7 0 1 1 peerPose)) tracking = true ∧
    firesAt 11701 .none (.poseReceived 0 (frame 7 0 1 1 peerPose)) tracking = false := by decide +kernel

/-- EntriesAgeAndAreCleared: a change of the table evaluates, and a CLEAR(PEER) that changes nothing does not. -/
theorem witness_EntriesAgeAndAreCleared_evaluation :
    let s (f : Freshness) : State := withPeer (peer f 5000000 [] none) tracking
    firesAt 11700 .none (.clearPeer 0 (frame 48 0 7 1 [2, 7])) (s .lost) = true ∧
    firesAt 11700 .none (.clearPeer 0 (frame 48 0 7 1 [2, 7])) (s .stale) = false ∧
    firesAt 11700 .none (.neighbourAgeing 300000 7) (s .live) = true := by decide +kernel

/-- SceneClocksFollowSync: the expiry of a clock to which no voice is locked evaluates, at 5,000 ms and not 1 ms before. -/
theorem witness_SceneClocksFollowSync_evaluation :
    let s (received : Nat) : State := { tracking with cues := { tracking.cues with
      clocks := Vector.replicate 15 ⟨0, received, true⟩ } }
    firesAt 11700 .none (.sceneClockExpiry 0 2) (s 0) = true ∧
    firesAt 11700 .none (.sceneClockExpiry 0 2) (s 1) = false := by decide +kernel

/-- ClaimWindowCompletesTheClaim: the completion for the here item starts the claim for the next one. -/
theorem witness_ClaimWindowCompletesTheClaim_next :
    let s : State := { tracking with zone := { tracking.zone with
      hold := [], claim := some ⟨item 40 2, .listen 4700 []⟩ } }
    let t := after (.claimWindowExpiry 0) s
    t.zone.hold = [⟨item 40 2, none⟩] ∧ t.zone.claim = some ⟨item 44 1, .listen 5000 []⟩ := by decide +kernel

/-- FiringRecordsPerformTheirActions: PLAY asks for the clip entry, and while the show is paused it does not. -/
theorem witness_FiringRecordsPerformTheirActions_asks :
    let busy (paused : Bool) : State := { reading [⟨.record 4 11800, 0⟩] tracking with
      sound := { tracking.sound with paused := paused } }
    let t (paused : Bool) : State := performAction (record 9 11700 none) (busy paused) (.play 3 6 128 false false)
    (t false).content.queue.map ReadRequest.target = [.clipEntry 6] ∧
    ((t false).content.queue.all fun q => names (.voice 3) q.waiters) = true ∧ (t true).content.queue = [] := by
  decide +kernel

/-- WarmResetByFrameAndByLine: a place that waits for its clip entry asks for it again, and one with a slot lacking asks for
that block. -/
theorem witness_WarmResetByFrameAndByLine_asks :
    let s : State := { running with
      content := { running.content with reader := .reading (.clipEntry 6) [⟨.pin 2, 0⟩] 5000100 }
      sound := { running.sound with pins := #v[some ⟨4, some ⟨31, 1, 256, false⟩, .filling⟩, some ⟨6, none, .entry⟩] } }
    let t := after (.restart 0 (frame 48 5 12 1 [])) s
    slotAt t 31 0 = .filling 31 ∧ t.content.queue.map ReadRequest.target = [.clipEntry 6] ∧
    (t.content.queue.all fun q => names (.pin 2) q.waiters) = true ∧
    (match t.content.reader with
      | .reading target ws _ => target == .block 31 && names (.pin 1) ws
      | _ => false) = true := by decide +kernel

/-- ReadsAndSceneTimesReachTheRecords: at SCENE_TIME_REACHED a firing record sends its cue and switches its effect line. -/
theorem witness_ReadsAndSceneTimesReachTheRecords_actions :
    let s : State := armed [record 9 11700 (some (entry (.sceneTime 43) [.send, .effect 1 1 0 0]))] timed
    let t := after (.sceneTimeReached 0 2) s
    sceneTime timed 2 = some 43 ∧ t.cues.armed = [] ∧ t.channel.queue.length = 1 ∧ t.cues.effects[(0 : Fin 8)] = .on ∧
    s.cues.effects[(0 : Fin 8)] = .off := by decide +kernel

/-! ### Witnesses: captures, judging and the POSE at once -/

/-- The one frame that an event which calls for a POSE leaves in an empty queue. -/
def posed (t : State) : List TxFrame := [⟨0, .pose (buildPose t), 0, none, .queued⟩]

/-- The next edge of `s` completes a capture. -/
def capturing (s : State) : State :=
  { s with path := { s.path with capture := some ⟨5000000, 1⟩ } }

def governed (brake : Brake) (standstill : StandstillTimer) (overspeed : Option Nat) (target : Nat) (s : State) : State :=
  { s with governor := { s.governor with
      brake := brake, standstill := standstill, overspeedDue := overspeed, target := target } }

/-- EncEdgeMeasuresTravelAndSpeed: a capture of 200 mm/s ends ASSIST and discards both timers; one of 1,000 keeps ASSIST and
starts the overspeed timer, or leaves a running one; one of 0 starts the standstill timer, on a target of 0 alone. -/
theorem witness_EncEdgeMeasuresTravelAndSpeed_capture :
    let at' (dt target : Nat) (standstill : StandstillTimer) (overspeed : Option Nat) : GovernorState :=
      (after (.encEdge dt) (capturing (governed .assist standstill overspeed target tracking))).governor
    let slow := at' 7500 0 (.running 5100000) (some 5190000)
    let fast := at' 1500 0 .idle none
    (slow.brake, slow.standstill, slow.overspeedDue) = (.off, .idle, none) ∧
    (fast.brake, fast.standstill, fast.overspeedDue) = (.assist, .idle, some 5201500) ∧
    (at' 1500 0 .idle (some 5190000)).overspeedDue = some 5190000 ∧
    (at' 1500001 0 .idle none).standstill = .running 7000001 ∧
    (at' 1500001 0 .spent none).standstill = .spent ∧ (at' 1500001 1 (.running 5100000) none).standstill = .idle := by
  decide +kernel

/-- A part in a LOAD stretch, in which load standstill was last found `found`, with restraint 2 at `b`. -/
def loaded (found : Bool) (speed : Nat) (b : Bar) : State :=
  let s := withWindow { window with load := true } (withBars true b tracking)
  { s with
    path := { s.path with speed := speed }
    restraints := { s.restraints with standstill := found } }

def openBar : Bar := ⟨.opened, none, .opened, some 2500⟩
def looseBar : Bar := ⟨.locked, none, .opened, some 2500⟩

def barStateOf (s : State) : BarState := s.restraints.bars[(1 : Fin 8)].state

/-- EncEdgeMeasuresTravelAndSpeed and BoundaryCrossingMovesTheWindow: load standstill ends at a capture, with the restraint
LOCKED, and with it OPEN, which begins the restraint stop; and at the boundary of the stretch. -/
theorem witness_EncEdgeMeasuresTravelAndSpeed_standstill :
    let t (b : Bar) : State := after (.encEdge 7500) (capturing (loaded true 0 b))
    let left : State := after (.encEdge 0) { loaded true 0 openBar with
      path := { (loaded true 0 openBar).path with odometer := 11999, remainder := 250 } }
    barStateOf (t looseBar) = .suspect ∧ (t looseBar).restraints.bars[(1 : Fin 8)].suspectDue = some 5307500 ∧
    barStateOf (t openBar) = .fault ∧ (t openBar).restraints.standstill = false ∧
    (t openBar).governor.limits.restraint = 0 ∧ (t openBar).cues.restraintStop = true ∧
    (t openBar).channel.queue = posed (t openBar) ∧
    barStateOf left = .fault ∧ left.restraints.standstill = false ∧ left.governor.limits.restraint = 0 := by
  decide +kernel

/-- TagMissGoesAdrift and ClaimWindowCompletesTheClaim: the POSE at once joins the queue, replaces the one there in place, and
waits beside one under transmission. -/
theorem witness_ClaimWindowCompletesTheClaim_pose :
    let t (q : List TxFrame) : State := after (.claimWindowExpiry 0) (queued q claiming)
    let missed := after (.encEdge 0) (withWindow { window with next := none }
      { tracking with path := { tracking.path with odometer := 13000, remainder := 250 } })
    let old : TxFrame := { poseFrame with attempts := 2, seq := some 3, status := .retrying 5004100 }
    (t []).channel.queue = posed (t []) ∧
    (t [verdictFrame, old]).channel.queue =
      [verdictFrame, { old with body := .pose (buildPose (t [])), seq := none }] ∧
    (t [{ poseFrame with status := .onAir }]).channel.pendingPose = some (buildPose (t [])) ∧
    missed.cues.armed = [] ∧ missed.channel.queue = posed missed := by decide +kernel

/-- CaptureOverflowIsStandstill: the capture of 0 ends ASSIST and the overspeed timer, the latter not during a safety stop;
load standstill begins with it, which makes a restraint in its grace time OPEN; and STOPPED offers a POSE. -/
theorem witness_CaptureOverflowIsStandstill_judging :
    let still (s : State) : State := after (.captureOverflow 65535)
      { s with path := { s.path with overflowDue := some 5065535 } }
    let g (s : State) : GovernorState := (still (governed .assist (.running 5100000) (some 5190000) 1 s)).governor
    let t := still (loaded false 400 { suspectBar with suspectDue := some 6000000 })
    ((g tracking).brake, (g tracking).standstill, (g tracking).overspeedDue) = (.off, .idle, none) ∧
    (g (stopped ⟨true, false, false, false, false, false⟩ tracking)).overspeedDue = some 5190000 ∧
    barStateOf t = .opened ∧ t.restraints.bars[(1 : Fin 8)].suspectDue = none ∧ t.restraints.standstill = true ∧
    t.governor.limits.restraint = 4000 ∧ t.channel.queue = posed t := by decide +kernel

/-- FirstTagIsJudgedByThePeers and LaterTagIsJudgedByTheWindow: a first tag, installed and refused, a conflict, and a refresh
in a LOAD stretch at whose tag load standstill begins. -/
theorem witness_LaterTagIsJudgedByTheWindow_standstill :
    let first := Instr.tagRecord 0 0 (tag 7 2088 1068 300 0 2)
    let taken := after first running
    let refused := after first (withPeer (peer .lost 0 [item 43 0] none) running)
    let conflict := after (.tagRecord 0 0 (tag 8 1072 1072 300 0 2)) tracking
    let t := after (.tagRecord 0 0 (markedTag 8 2088 1068 300 true 0 0 0 0)) (loaded false 0 looseBar)
    taken.channel.queue = posed taken ∧ refused.channel.queue = posed refused ∧
    conflict.channel.queue = posed conflict ∧
    t.path.lastTag = some 8 ∧ t.restraints.standstill = true ∧ barStateOf t = .opened ∧ t.channel.queue = posed t := by
  decide +kernel

/-- SafetyStopsActAtOnce: the chain opens while a restraint is in FAULT; the POSE joins the queue, and displaces the youngest
frame of a full one; a cause that joins the stop offers none. -/
theorem witness_SafetyStopsActAtOnce_pose :
    let s (q : List TxFrame) : State := queued q (withBars true (faultBar .closed) tracking)
    let t (q : List TxFrame) : State := after (.chainOpen 0) (s q)
    let five := List.replicate 5 verdictFrame
    let joins := after (.overspeedTimerExpiry 200000) { stopped ⟨true, false, false, false, false, false⟩ tracking with
      governor := { (stopped ⟨true, false, false, false, false, false⟩ tracking).governor with
        overspeedDue := some 5200000 } }
    (s []).faultFlag = true ∧ (t []).channel.queue = posed (t []) ∧
    (t (five ++ [cueFrame])).channel.queue = five ++ posed (t []) ∧
    (t (five ++ [verdictFrame])).channel.queue = five ++ posed (t []) ∧
    (t (five ++ [verdictFrame])).startUp.counters.txDropped = 1 ∧
    joins.governor.causes.overspeed = true ∧ joins.channel.queue = [] := by decide +kernel

/-- PoseSetsTheNeighbourEntry and EntriesAgeAndAreCleared: a withdrawal and the end of a wait offer a POSE; a change that
leaves the claim offers none. -/
theorem witness_PoseSetsTheNeighbourEntry_pose :
    let withdrawn := after (.poseReceived 0 (frame 7 0 1 1 peerPose)) claiming
    let free := after (.clearPeer 0 (frame 48 0 7 1 [2, 7])) (withPeer (peer .lost 0 [item 44 1] none)
      { claiming with zone := { claiming.zone with claim := some ⟨item 44 1, .waiting⟩ } })
    let aged := after (.neighbourAgeing 300000 7) (withPeer (peer .live 5000000 [] none) tracking)
    withdrawn.channel.queue = posed withdrawn ∧ free.channel.queue = posed free ∧ aged.channel.queue = [] := by
  decide +kernel

/-- DispatchIsAcceptedIgnoredOrRefused: an accepted DISPATCH finds a restraint OPEN, which faults: the restraint stop begins
with its spiel and one POSE, in a safety stop too; one that is LOCKED without a good lock becomes SUSPECT, with no POSE. -/
theorem witness_DispatchIsAcceptedIgnoredOrRefused_judging :
    let t (b : Bar) (s : State → State) : State := after (.dispatchReceived 0 (frame 48 5 6 1 []))
      (s { loaded true 0 b with restraints := { (loaded true 0 b).restraints with ready := true } })
    let faulted := t openBar id
    let inStop := t openBar (stopped ⟨true, false, false, false, false, false⟩)
    faulted.restraints.dispatched = true ∧ barStateOf faulted = .fault ∧ faulted.restraints.ready = false ∧
    faulted.restraints.standstill = false ∧ faulted.startUp.faults.restraint = true ∧
    faulted.restraints.spielDue = some 15000000 ∧ faulted.sound.voices[(0 : Fin 4)].clip = 3 ∧
    (faulted.governor.limits.restraint, faulted.governor.limits.load) = (0, 4000) ∧
    faulted.channel.queue = posed faulted ∧ inStop.channel.queue = posed inStop ∧
    barStateOf (t looseBar id) = .suspect ∧ (t looseBar id).channel.queue = [] := by decide +kernel

/-- RestraintsAreJudgedAtTheirEvents: a restraint stop that begins during a safety stop offers a POSE. Then a CLEAR ends the
restraint stop with no POSE, and with one where no safety stop is in force, and a RESUME ends a safety stop with one. -/
theorem witness_RestraintsAreJudgedAtTheirEvents_pose :
    let chain : CauseSet := ⟨true, false, false, false, false, false⟩
    let begun := after (.suspectTimerExpiry 0 2) (stopped chain (withBars true suspectBar tracking))
    let faulty := withBars true (faultBar .closed) tracking
    let cleared (s : State) : State := after (.clearFaults 0 (frame 48 0 7 1 [1, 0, 32])) s
    let resumed := after (.resume 0 (frame 48 5 9 1 [0])) (stopped chain faulty)
    begun.faultFlag = true ∧ begun.channel.queue = posed begun ∧
    barStateOf (cleared (stopped chain faulty)) = .locked ∧ (cleared (stopped chain faulty)).channel.queue = [] ∧
    (cleared faulty).channel.queue = posed (cleared faulty) ∧
    resumed.governor.causes.any = false ∧ resumed.faultFlag = true ∧ resumed.channel.queue = posed resumed := by
  decide +kernel

/-! ### Witnesses: pins, requests and wants -/

/-- FiringRecordsPerformTheirActions: PIN takes the first place and UNPIN empties it; above clip 511 both are skipped. -/
theorem witness_FiringRecordsPerformTheirActions_pins :
    let act := performAction (record 9 11700 none)
    (act running (.pin 511)).sound.pins = #v[some ⟨511, none, .entry⟩, none] ∧
    (act pinned (.unpin 4)).sound.pins = #v[none, none] ∧
    (act running (.pin 512)).startUp.counters.contentErrors = 1 ∧
    (act pinned (.unpin 512)).startUp.counters.contentErrors = 1 := by decide +kernel

/-- RequestsJoinWaitAndAreServed: voice 1 leaves three requests and the read in flight; the request that another shares stays
where it was, and so does the one it is not named on. -/
theorem witness_RequestsJoinWaitAndAreServed_withdrawal :
    let shared : ReadRequest := ⟨.block 7, [⟨.voice 1, 4⟩, ⟨.pin 2, 6⟩], 4⟩
    let t := withdraw (.voice 1) (contentReader (.reading (.block 99) [⟨.voice 1, 1⟩] 5000200)
      (requests (.voice 1) [8] ++ shared :: requests (.voice 2) [9] ++ requests (.voice 1) [10]) 3)
    t.content.queue = ⟨.block 7, [⟨.pin 2, 6⟩], 6⟩ :: requests (.voice 2) [9] ∧
    t.content.reader = .reading (.block 99) [] 5000200 := by decide +kernel

/-- CachesAndPinsHoldTheirBlocks: what voice 1 wants in STARTING at the start and near the end of its clip of four blocks
from block 20 on, with and without loop, in PLAYING, waiting and not, and PAUSED. -/
theorem witness_CachesAndPinsHoldTheirBlocks_wants :
    let entry : ClipEntry := ⟨20, 4, 256, false⟩
    let w (x : Voice) : List Nat := wants (voiced { x with entry := some entry }) 1
    let plays (b : Nat) (loop : Bool) : Voice := { playing 0 128 with
      position := b * 256, loop := loop, buffer := some ⟨b, flat 0⟩ }
    w (starts 0) = [20, 21, 22] ∧ w (starts 513) = [22, 23] ∧ w { starts 513 with loop := true } = [22, 23, 20] ∧
    w (plays 1 false) = [22, 23] ∧ w (plays 3 false) = [] ∧ w (plays 3 true) = [20, 21] ∧
    w { plays 1 false with position := 512, waiting := true } = [22, 23] ∧
    w { plays 1 false with state := .paused, buffer := none } = [] := by decide +kernel

/-- ReadsReachVoicesAndPins: a clip entry for voice 1 with the amplifier ACTIVE: its start block resident, it plays, and the
next two blocks are asked for; not resident, it waits for it; with its position past the end, it is IDLE. A block that is
delivered to a waiting voice leaves the next two asked for. -/
theorem witness_ReadsReachVoicesAndPins_entry :
    let got (data : BlockData) (target : Target) (x : Voice) (s : State → State) : State :=
      after (.readComplete 0 data) (s { voiced x with content := { (voiced x).content with
        reader := .reading target [⟨.voice 1, 3⟩] 5000000 } })
    let fresh (position : Nat) : Voice := { starts position with entry := none, startBlock := none }
    let good := blockOf [0, 2, 0, 33, 255, 0, 0, 0]
    let entered (position b : Nat) : State := got good (.clipEntry 0) (fresh position) (resident b)
    let fetched := got (flat 7) (.block 1) { playing 0 128 with position := 256, waiting := true }
      (withSet 1 (CacheSet.reset.putSlot 2 (.filling 1)))
    let asked (s : State) : List Target := s.content.queue.map ReadRequest.target
    let inFlight (s : State) (b : Nat) : Bool := match s.content.reader with
      | .reading target ws _ => target == .block b && names (.voice 1) ws
      | _ => false
    clipEntryOf good = some ⟨2, 33, 256, false⟩ ∧
    heard (entered 0 2) 1 = ⟨.playing, 0, some 0, false, none, false⟩ ∧ inFlight (entered 0 2) 3 = true ∧
    asked (entered 0 2) = [.block 4] ∧ slotAt (entered 0 2) 4 0 = .filling 4 ∧
    heard (entered 0 9) 1 = ⟨.starting, 0, none, false, none, false⟩ ∧ inFlight (entered 0 9) 2 = true ∧
    (entered 0 9).sound.voices[(1 : Fin 4)].startBlock = some 0 ∧ asked (entered 0 9) = [.block 3, .block 4] ∧
    (entered 8448 9).sound.voices[(1 : Fin 4)].state = .idle ∧
    heard fetched 1 = ⟨.playing, 256, some 1, false, none, false⟩ ∧ inFlight fetched 2 = true ∧
    asked fetched = [.block 3] := by decide +kernel

end Sys2Proof.Tests
end

section
/-! SUPPORT. O9, the three curve entries (R14, R15, R58, R117). The law says four things: the part has a window in RUN
alone and is in RUN with an image alone (`WindowLaw`), and CAP, ZONE and LOAD are each what their owner would set them
to now. Three views of a state say what an operation cannot have touched of this: `curveParts` keeps all that the law
reads, `exceptHold` forgets the hold list and ZONE besides, and `exceptBars` of MotionFrames forgets LOAD and what LOAD
alone reads. A chain of updates that changes the odometer, the speed or the window sets CAP, then ZONE, then LOAD anew,
and what comes between two of them keeps the view that the entries set so far read. -/

namespace Sys2Proof.Machine

/-! ### The law, entry by entry -/

/-- Outside RUN the window is empty (R18), and a part without a configuration image is not in RUN (R161). -/
def WindowLaw (s : State) : Prop :=
  (s.startUp.run ≠ .run → s.path.window = none) ∧ (s.startUp.config = none → s.startUp.run ≠ .run)

def CapPresent (s : State) : Prop :=
  s.governor.limits.cap = capEntry s

def ZonePresent (s : State) : Prop :=
  s.governor.limits.zone = zoneEntry s

def LoadPresent (s : State) : Prop :=
  s.governor.limits.load = loadEntry s

/-- The curve law but for LOAD, which is set last. -/
structure AllButLoad (s : State) : Prop where
  window : WindowLaw s
  cap : CapPresent s
  zone : ZonePresent s

theorem curveLaw_iff (s : State) : CurveLaw s ↔ AllButLoad s ∧ LoadPresent s := by
  have entries : CurveLaw s ↔ WindowLaw s ∧ CapPresent s ∧ ZonePresent s ∧ LoadPresent s := by
    unfold CurveLaw WindowLaw CapPresent ZonePresent LoadPresent capEntry zoneEntry loadEntry
    rw [and_assoc]
    cases s.path.window with
    | none => rfl
    | some w => cases hn : w.next <;> simp [hn, State.holds]
  rw [entries]
  exact ⟨fun ⟨w, c, z, l⟩ => ⟨⟨w, c, z⟩, l⟩, fun ⟨⟨w, c, z⟩, l⟩ => ⟨w, c, z, l⟩⟩

theorem CurveLaw.allButLoad {s : State} (h : CurveLaw s) : AllButLoad s :=
  ((curveLaw_iff s).1 h).1

theorem CurveLaw.windowLaw {s : State} (h : CurveLaw s) : WindowLaw s :=
  h.allButLoad.window

/-- Without a window the law asks for three entries of 4000. -/
theorem curveLaw_iff_of_no_window {s : State} (h : s.path.window = none) :
    CurveLaw s ↔ (s.startUp.config = none → s.startUp.run ≠ .run) ∧
      s.governor.limits.cap = 4000 ∧ s.governor.limits.zone = 4000 ∧ s.governor.limits.load = 4000 := by
  simp [CurveLaw, h]

/-! ### What the law reads -/

/-- What the curve law reads of a state. The here-confirmed flag of the window is not among it. -/
def State.curveParts (s : State) : State :=
  { State.reset with
    startUp := { State.reset.startUp with run := s.startUp.run, config := s.startUp.config }
    path := { State.reset.path with
      odometer := s.path.odometer
      speed := s.path.speed
      window := s.path.window.map fun w => { w with confirmed := false } }
    zone := { State.reset.zone with hold := s.zone.hold }
    restraints := { State.reset.restraints with dispatched := s.restraints.dispatched }
    governor := { State.reset.governor with
      limits := { LimitTable.reset with
        cap := s.governor.limits.cap, zone := s.governor.limits.zone, load := s.governor.limits.load } } }

/-- The same without the hold list and ZONE, which the Zone Controller changes. -/
def State.exceptHold (s : State) : State :=
  { s.curveParts with
    zone := State.reset.zone
    governor := { s.curveParts.governor with limits := { s.curveParts.governor.limits with zone := 0 } } }

theorem exceptHold_of_curveParts {a b : State} (h : a.curveParts = b.curveParts) : a.exceptHold = b.exceptHold := by
  unfold State.exceptHold; rw [h]

theorem curveParts_of_exceptShow {a b : State} (h : a.exceptShow = b.exceptShow) : a.curveParts = b.curveParts := by
  have g := congrArg State.curveParts h
  exact g

theorem curveParts_of_exceptSound {a b : State} (h : a.exceptSound = b.exceptSound) : a.curveParts = b.curveParts := by
  have g := congrArg State.curveParts h
  exact g

theorem curveParts_window (s : State) :
    s.curveParts.path.window = s.path.window.map fun w => { w with confirmed := false } := rfl

theorem exceptHold_window (s : State) :
    s.exceptHold.path.window = s.path.window.map fun w => { w with confirmed := false } := rfl

theorem windowLaw_exceptHold (s : State) : WindowLaw s.exceptHold ↔ WindowLaw s := by
  unfold WindowLaw
  rw [exceptHold_window, Option.map_eq_none_iff]
  rfl

theorem capPresent_exceptHold (s : State) : CapPresent s.exceptHold ↔ CapPresent s := by
  have entry : capEntry s.exceptHold = capEntry s := by
    unfold capEntry
    rw [exceptHold_window]
    cases s.path.window <;> rfl
  unfold CapPresent
  rw [entry]
  rfl

theorem loadPresent_exceptHold (s : State) : LoadPresent s.exceptHold ↔ LoadPresent s := by
  have entry : loadEntry s.exceptHold = loadEntry s := by
    unfold loadEntry
    rw [exceptHold_window]
    cases s.path.window <;> rfl
  unfold LoadPresent
  rw [entry]
  rfl

theorem zonePresent_curveParts (s : State) : ZonePresent s.curveParts ↔ ZonePresent s := by
  have entry : zoneEntry s.curveParts = zoneEntry s := by
    unfold zoneEntry
    rw [curveParts_window]
    cases s.path.window <;> rfl
  unfold ZonePresent
  rw [entry]
  rfl

section Views

variable {a b : State}

theorem windowLaw_of_exceptHold (h : a.exceptHold = b.exceptHold) : WindowLaw a ↔ WindowLaw b := by
  rw [← windowLaw_exceptHold a, h, windowLaw_exceptHold]

theorem capPresent_of_exceptHold (h : a.exceptHold = b.exceptHold) : CapPresent a ↔ CapPresent b := by
  rw [← capPresent_exceptHold a, h, capPresent_exceptHold]

theorem loadPresent_of_exceptHold (h : a.exceptHold = b.exceptHold) : LoadPresent a ↔ LoadPresent b := by
  rw [← loadPresent_exceptHold a, h, loadPresent_exceptHold]

theorem zonePresent_of_curveParts (h : a.curveParts = b.curveParts) : ZonePresent a ↔ ZonePresent b := by
  rw [← zonePresent_curveParts a, h, zonePresent_curveParts]

theorem AllButLoad.of_curveParts (h : a.curveParts = b.curveParts) (hb : AllButLoad b) : AllButLoad a where
  window := (windowLaw_of_exceptHold (exceptHold_of_curveParts h)).2 hb.window
  cap := (capPresent_of_exceptHold (exceptHold_of_curveParts h)).2 hb.cap
  zone := (zonePresent_of_curveParts h).2 hb.zone

/-- What keeps the parts that the law reads keeps the law. -/
theorem curveLaw_of_curveParts (h : a.curveParts = b.curveParts) : CurveLaw a ↔ CurveLaw b := by
  have rest : AllButLoad a ↔ AllButLoad b := ⟨.of_curveParts h.symm, .of_curveParts h⟩
  rw [curveLaw_iff, curveLaw_iff, rest, loadPresent_of_exceptHold (exceptHold_of_curveParts h)]

theorem run_of_exceptHold (h : a.exceptHold = b.exceptHold) : a.startUp.run = b.startUp.run := by
  have g := congrArg (fun s : State => s.startUp.run) h
  exact g

theorem run_of_curveParts (h : a.curveParts = b.curveParts) : a.startUp.run = b.startUp.run := by
  have g := congrArg (fun s : State => s.startUp.run) h
  exact g

theorem window_none_of_curveParts (h : a.curveParts = b.curveParts) (hb : b.path.window = none) :
    a.path.window = none := by
  have g := congrArg (fun s : State => s.path.window) h
  simpa [State.curveParts, hb] using g

/-- The Restraint Monitor changes nothing that the law but for LOAD reads. -/
theorem allButLoad_of_exceptBars (h : a.exceptBars = b.exceptBars) : AllButLoad b → AllButLoad a := by
  have path := path_of_exceptBars h
  have zone := zone_of_exceptBars h
  have run := run_of_exceptBars h
  have config := config_of_exceptBars h
  have curve (m g v : Nat) : stopCurve a m g v = stopCurve b m g v := by
    simp [stopCurve, curveDistance, reactionAllowance, State.cfg, path, config]
  have cap : a.governor.limits.cap = b.governor.limits.cap :=
    congrArg (fun g => g.limits.cap) (governor_of_exceptBars h)
  have zoneLimit : a.governor.limits.zone = b.governor.limits.zone :=
    congrArg (fun g => g.limits.zone) (governor_of_exceptBars h)
  rintro ⟨w, c, z⟩
  refine ⟨?_, ?_, ?_⟩
  · simpa [WindowLaw, run, config, path] using w
  · simpa [CapPresent, capEntry, curve, cap, path] using c
  · simpa [ZonePresent, zoneEntry, State.holds, State.cfg, curve, zoneLimit, path, zone, config] using z

end Views

/-! ### An entry set anew -/

theorem capPresent_setCap (s : State) : CapPresent (setCap s) := rfl

theorem zonePresent_setZone (s : State) : ZonePresent (setZone s) := rfl

theorem loadPresent_setLoad (s : State) : LoadPresent (setLoad s) := rfl

theorem windowLaw_setCap {s : State} (h : WindowLaw s) : WindowLaw (setCap s) := h

/-- ZONE is set anew after whatever the Zone Controller has changed. -/
theorem allButLoad_setZone {s t : State} (h : t.exceptHold = s.exceptHold) (hw : WindowLaw s) (hc : CapPresent s) :
    AllButLoad (setZone t) where
  window := (windowLaw_of_exceptHold h).2 hw
  cap := (capPresent_of_exceptHold h).2 hc
  zone := zonePresent_setZone t

/-- LOAD is set anew after whatever the Restraint Monitor has changed. -/
theorem curveLaw_setLoad {s t : State} (h : t.exceptBars = s.exceptBars) (hs : AllButLoad s) : CurveLaw (setLoad t) :=
  (curveLaw_iff _).2 ⟨allButLoad_of_exceptBars ((exceptBars_setLoad t).trans h) hs, loadPresent_setLoad t⟩

/-! ### Updates that the law does not see -/

@[simp] theorem curveParts_advance (dt : Nat) (s : State) : (advance dt s).curveParts = s.curveParts := rfl

@[simp] theorem curveParts_withChannel (x : ChannelState) (s : State) : (withChannel x s).curveParts = s.curveParts :=
  rfl

@[simp] theorem curveParts_withScanner (x : ScannerState) (s : State) : (withScanner x s).curveParts = s.curveParts :=
  rfl

@[simp] theorem curveParts_withSteering (x : SteeringState) (s : State) :
    (withSteering x s).curveParts = s.curveParts := rfl

@[simp] theorem curveParts_mapQueue (f : List TxFrame → List TxFrame) (s : State) :
    (mapQueue f s).curveParts = s.curveParts := rfl

@[simp] theorem curveParts_raiseFault (k : FaultKind) (s : State) : (raiseFault k s).curveParts = s.curveParts := rfl

@[simp] theorem curveParts_withFaults (f : FaultSet) (s : State) : (withFaults f s).curveParts = s.curveParts := rfl

/-- The seven entries of the limit table that are no curve. -/
theorem curveParts_setLimit {k : LimitSource} (h : isCurve k = false) (v : Nat) (s : State) :
    (setLimit k v s).curveParts = s.curveParts := by
  cases k with
  | cap | zone | load => cases h
  | tag | guide | showHold | ride | restraint | channel | safety => rfl

/-- A change of the Motion Governor that keeps the limit table. -/
theorem curveParts_withGovernor {g : GovernorState} {s : State} (h : g.limits = s.governor.limits) :
    (withGovernor g s).curveParts = s.curveParts := by
  simp [State.curveParts, h]

@[simp] theorem curveParts_evaluate (f : Option (Nat × Nat)) (s : State) : (evaluate f s).curveParts = s.curveParts :=
  curveParts_of_exceptShow (exceptShow_evaluate f s)

@[simp] theorem curveParts_offerFrame (d : Nat) (b : TxBody) (s : State) :
    (offerFrame d b s).curveParts = s.curveParts :=
  curveParts_of_exceptShow (exceptShow_offerFrame d b s)

@[simp] theorem curveParts_armCue (c m : Nat) (o : Origin) (f : Option (Nat × Nat)) (s : State) :
    (armCue c m o f s).curveParts = s.curveParts :=
  curveParts_of_exceptShow (exceptShow_armCue c m o f s)

@[simp] theorem curveParts_startSpiel (s : State) : (startSpiel s).curveParts = s.curveParts :=
  curveParts_of_exceptShow (exceptShow_startVoice _ _ _ _ _ _)

/-- TAG, the RECOVER grant and the here-confirmed flag are no part of the law. -/
@[simp] theorem curveParts_setTag (s : State) : (setTag s).curveParts = s.curveParts := rfl

/-! ### The Motion Governor -/

/-- R71: a stop sets SAFETY and RIDE alone of the entries. -/
@[simp] theorem curveParts_raiseStop (c : StopCause) (s : State) : (raiseStop c s).curveParts = s.curveParts :=
  (curveParts_of_exceptShow (exceptShow_raiseStop c s)).trans rfl

/-- R76: the end of a stop sets SAFETY alone. -/
@[simp] theorem curveParts_latchOnly (c : CauseSet) (s : State) : (latchOnly c s).curveParts = s.curveParts := by
  refine (curveParts_of_exceptShow (exceptShow_latchOnly c s)).trans ?_
  split <;> rfl

@[simp] theorem curveParts_assistTest (s : State) : (assistTest s).curveParts = s.curveParts := by
  unfold assistTest
  split <;> rfl

@[simp] theorem curveParts_standstillTest (s : State) : (standstillTest s).curveParts = s.curveParts := by
  unfold standstillTest
  split
  · split <;> rfl
  · rfl

@[simp] theorem curveParts_overspeedTest (s : State) : (overspeedTest s).curveParts = s.curveParts := by
  unfold overspeedTest
  split
  · split
    · split <;> rfl
    · rfl
  · rfl

@[simp] theorem curveParts_governorTests (s : State) : (governorTests s).curveParts = s.curveParts := by
  simp [governorTests]

theorem ramped_limits (g : GovernorState) (d : RampDirection) (rate limit target : Nat) :
    (ramped g d rate limit target).limits = g.limits := by
  unfold ramped
  split <;> rfl

/-- R66, R67: an evaluation of the target only reads the limit table. -/
@[simp] theorem curveParts_evaluateTarget (s : State) : (evaluateTarget s).curveParts = s.curveParts := by
  unfold evaluateTarget
  dsimp only
  split
  · exact curveParts_withGovernor (ramped_limits _ _ _ _ _)
  · split
    · rfl
    · exact curveParts_withGovernor (ramped_limits _ _ _ _ _)

@[simp] theorem curveParts_releaseBrake (before : Nat) (s : State) :
    (releaseBrake before s).curveParts = s.curveParts := by
  unfold releaseBrake
  split <;> rfl

@[simp] theorem curveParts_drivePeriod (s : State) : (drivePeriod s).curveParts = s.curveParts := by
  unfold drivePeriod
  dsimp only
  refine (curveParts_governorTests _).trans ((curveParts_withGovernor rfl).trans ?_)
  rw [curveParts_releaseBrake, curveParts_evaluateTarget, curveParts_withGovernor]
  rfl

/-! ### The Restraint Monitor -/

@[simp] theorem curveParts_setBar (i : Nat) (b : Bar) (s : State) : (setBar i b s).curveParts = s.curveParts := rfl

@[simp] theorem curveParts_moveBar (i : Nat) (b : Bar) (s : State) : (moveBar i b s).curveParts = s.curveParts := by
  unfold moveBar
  dsimp only
  split <;> simp

@[simp] theorem curveParts_judgeBar (s : State) (i : Nat) : (judgeBar s i).curveParts = s.curveParts :=
  curveParts_moveBar _ _ _

theorem curveParts_withRestraints {r : RestraintState} {s : State} (h : r.dispatched = s.restraints.dispatched) :
    (withRestraints r s).curveParts = s.curveParts := by
  simp [State.curveParts, h]

@[simp] theorem curveParts_tellRestraintStop (b : Bool) (s : State) :
    (tellRestraintStop b s).curveParts = s.curveParts :=
  curveParts_of_exceptShow (exceptShow_tellRestraintStop b s)

@[simp] theorem curveParts_settleStop (was : Bool) (s : State) : (settleStop was s).curveParts = s.curveParts := by
  have restraint (v : Nat) : (setLimit .restraint v s).curveParts = s.curveParts := curveParts_setLimit rfl v s
  unfold settleStop
  dsimp only
  split
  · refine (curveParts_startSpiel _).trans ((curveParts_withRestraints rfl).trans ?_)
    rw [curveParts_tellRestraintStop, restraint]
  · split
    · refine (curveParts_withRestraints rfl).trans ?_
      rw [curveParts_tellRestraintStop, restraint]
    · exact restraint _

@[simp] theorem curveParts_afterJudging (b s : State) : (afterJudging b s).curveParts = s.curveParts := by
  unfold afterJudging
  split
  · rfl
  · exact (curveParts_settleStop _ _).trans (curveParts_withRestraints rfl)

@[simp] theorem curveParts_judge (l : List Nat) (s : State) : (judge l s).curveParts = s.curveParts := by
  unfold judge
  split
  · exact (curveParts_afterJudging _ _).trans (foldl_keeps _ _ curveParts_judgeBar _ _)
  · rfl

@[simp] theorem curveParts_latchDelivered (i : Nat) (l : LatchState) (s : State) :
    (latchDelivered i l s).curveParts = s.curveParts := by
  simp [latchDelivered]

@[simp] theorem curveParts_recordDelivered (p : List Nat) (s : State) :
    (recordDelivered p s).curveParts = s.curveParts := by
  unfold recordDelivered
  dsimp only
  refine (curveParts_judge _ _).trans ((curveParts_withRestraints rfl).trans ?_)
  exact foldl_keeps State.curveParts _ (fun s i => curveParts_setBar i _ s) _ _

@[simp] theorem curveParts_clearRestraints (s : State) : (clearRestraints s).curveParts = s.curveParts := by
  unfold clearRestraints
  rw [curveParts_afterJudging]
  exact foldl_keeps State.curveParts _ (fun s i => curveParts_setBar i _ s) _ _

@[simp] theorem curveParts_takeCheck (source : Nat) (s : State) : (takeCheck source s).curveParts = s.curveParts :=
  (curveParts_offerFrame _ _ _).trans (curveParts_withRestraints rfl)

/-- R116, R117: an accepted DISPATCH sets LOAD anew at its end. -/
theorem curveLaw_takeDispatch {s : State} (hs : CurveLaw s) : CurveLaw (takeDispatch s) := by
  unfold takeDispatch
  split
  · exact curveLaw_setLoad (by simp) hs.allButLoad
  · split
    · exact hs
    · exact hs

/-- A change of the window reaches LOAD last. -/
theorem curveLaw_restraintsAtWindow {s : State} (hs : AllButLoad s) : CurveLaw (restraintsAtWindow s) :=
  curveLaw_setLoad (exceptBars_standstillChange s) hs

theorem curveLaw_restraintsAtLoad {s : State} (hs : AllButLoad s) : CurveLaw (restraintsAtLoad s) :=
  curveLaw_setLoad (by simp) hs

/-! ### The Zone Controller -/

@[simp] theorem curveParts_setNeighbour (p : Nat) (n : Option Neighbour) (s : State) :
    (setNeighbour p n s).curveParts = s.curveParts := by
  unfold setNeighbour
  split <;> rfl

@[simp] theorem curveParts_startClaim (s : State) : (startClaim s).curveParts = s.curveParts := by
  unfold startClaim
  split
  · split <;> rfl
  · rfl

@[simp] theorem curveParts_confirmHere (s : State) : (confirmHere s).curveParts = s.curveParts := by
  unfold confirmHere
  split
  · next w hw =>
    split
    · simp [State.curveParts, setTag, hw]
    · rfl
  · rfl

@[simp] theorem curveParts_endStaleClaim (s : State) : (endStaleClaim s).curveParts = s.curveParts := by
  unfold endStaleClaim
  split
  · split <;> rfl
  · rfl

@[simp] theorem curveParts_markHeard (p : Nat) (s : State) : (markHeard p s).curveParts = s.curveParts := by
  unfold markHeard
  split <;> rfl

@[simp] theorem curveParts_withdrawClaim (p : Nat) (n : Neighbour) (s : State) :
    (withdrawClaim p n s).curveParts = s.curveParts := by
  unfold withdrawClaim
  split
  · split <;> rfl
  · rfl

@[simp] theorem curveParts_dropEvidence (p : Nat) (s : State) : (dropEvidence p s).curveParts = s.curveParts := by
  unfold dropEvidence
  split <;> rfl

@[simp] theorem exceptHold_withZone (z : ZoneState) (s : State) : (withZone z s).exceptHold = s.exceptHold := rfl

@[simp] theorem exceptHold_setZone (s : State) : (setZone s).exceptHold = s.exceptHold := rfl

@[simp] theorem exceptHold_startClaim (s : State) : (startClaim s).exceptHold = s.exceptHold :=
  exceptHold_of_curveParts (curveParts_startClaim s)

@[simp] theorem exceptHold_confirmHere (s : State) : (confirmHere s).exceptHold = s.exceptHold :=
  exceptHold_of_curveParts (curveParts_confirmHere s)

@[simp] theorem exceptHold_endStaleClaim (s : State) : (endStaleClaim s).exceptHold = s.exceptHold :=
  exceptHold_of_curveParts (curveParts_endStaleClaim s)

@[simp] theorem exceptHold_completeClaim (it : ZoneItem) (s : State) :
    (completeClaim it s).exceptHold = s.exceptHold := by
  simp [completeClaim]

@[simp] theorem exceptHold_claimTest (s : State) : (claimTest s).exceptHold = s.exceptHold := by
  unfold claimTest
  split
  · rfl
  · split
    · rfl
    · split
      · exact exceptHold_completeClaim _ s
      · rfl

@[simp] theorem exceptHold_holdChanged (s : State) : (holdChanged s).exceptHold = s.exceptHold := by
  simp [holdChanged]

/-- R52, R58: a completion sets ZONE anew, with the item held. -/
theorem curveLaw_completeClaim (it : ZoneItem) {s : State} (hs : CurveLaw s) : CurveLaw (completeClaim it s) := by
  obtain ⟨⟨window, cap, _⟩, load⟩ := (curveLaw_iff s).1 hs
  have held : CurveLaw (setZone (withZone { s.zone with hold := s.zone.hold ++ [⟨it, none⟩], claim := none } s)) :=
    (curveLaw_iff _).2 ⟨allButLoad_setZone (exceptHold_withZone _ s) window cap, load⟩
  exact (curveLaw_of_curveParts ((curveParts_startClaim _).trans (curveParts_confirmHere _))).2 held

theorem curveLaw_claimTest {s : State} (hs : CurveLaw s) : CurveLaw (claimTest s) := by
  unfold claimTest
  split
  · exact hs
  · split
    · exact hs
    · split
      · exact curveLaw_completeClaim _ hs
      · exact hs

theorem curveLaw_tableChanged {s : State} (hs : CurveLaw s) : CurveLaw (tableChanged s) :=
  (curveLaw_of_curveParts (curveParts_evaluate none _)).2 (curveLaw_claimTest hs)

theorem curveLaw_takePose (peer : Nat) (p : PoseBody) {s : State} (hs : CurveLaw s) : CurveLaw (takePose peer p s) :=
  curveLaw_tableChanged ((curveLaw_of_curveParts (by simp)).2 hs)

theorem curveLaw_clearNeighbour (peer : Nat) {s : State} (hs : CurveLaw s) : CurveLaw (clearNeighbour peer s) := by
  unfold clearNeighbour
  split
  · split
    · exact curveLaw_tableChanged ((curveLaw_of_curveParts (by simp)).2 hs)
    · exact hs
  · exact hs

@[simp] theorem exceptHold_zoneAtCrossing (left here : ZoneItem) (mark : Nat) (s : State) :
    (zoneAtCrossing left here mark s).exceptHold = s.exceptHold := by
  simp [zoneAtCrossing]

theorem allButLoad_zoneAtCrossing (left here : ZoneItem) (mark : Nat) {s : State} (hw : WindowLaw s)
    (hc : CapPresent s) : AllButLoad (zoneAtCrossing left here mark s) :=
  allButLoad_setZone (by simp) hw hc

theorem allButLoad_zoneAtOdometer {s : State} (hw : WindowLaw s) (hc : CapPresent s) :
    AllButLoad (zoneAtOdometer s) := by
  unfold zoneAtOdometer
  dsimp only
  split
  · exact allButLoad_setZone rfl hw hc
  · exact allButLoad_setZone (by simp) hw hc

/-- R54, R58: an installation sets ZONE anew; without a window there is none to take. -/
theorem allButLoad_zoneAtInstall {s : State} (hw : WindowLaw s) (hc : CapPresent s)
    (hz : s.path.window = none → ZonePresent s) : AllButLoad (zoneAtInstall s) := by
  unfold zoneAtInstall
  split
  · next h => exact ⟨hw, hc, hz h⟩
  · dsimp only
    split
    · exact allButLoad_setZone (by simp) hw hc
    · exact allButLoad_setZone (by simp) hw hc

/-! ### The Path Tracker -/

theorem WindowLaw.run_of_window {s : State} {w : PathWindow} (h : WindowLaw s) (hw : s.path.window = some w) :
    s.startUp.run = .run := by
  by_contra hr
  rw [h.1 hr] at hw
  cases hw

/-- In RUN any change of the Path Tracker may put a window in place. -/
theorem WindowLaw.withPath_of_run {s : State} (h : WindowLaw s) (hr : s.startUp.run = .run) (p : PathState) :
    WindowLaw (withPath p s) :=
  ⟨fun h' => absurd hr h', h.2⟩

/-- A change of the Path Tracker that keeps the window. -/
theorem WindowLaw.withPath_of_window {s : State} {p : PathState} (h : WindowLaw s) (hp : p.window = s.path.window) :
    WindowLaw (withPath p s) :=
  ⟨fun h' => hp.trans (h.1 h'), h.2⟩

@[simp] theorem curveParts_pathFault (c : StopCause) (s : State) : (pathFault c s).curveParts = s.curveParts := by
  have grant (p : State) : (withPath { p.path with recover := false } p).curveParts = p.curveParts := rfl
  unfold pathFault
  dsimp only
  rw [curveParts_setTag, grant, curveParts_raiseStop]

@[simp] theorem curveParts_missTest (s : State) : (missTest s).curveParts = s.curveParts := by
  unfold missTest
  split <;> rfl

@[simp] theorem curveParts_wrongTag (s : State) : (wrongTag s).curveParts = s.curveParts :=
  curveParts_pathFault _ _

/-- R9: a crossing sets all three entries anew, so the law holds after it whatever they were before. -/
theorem curveLaw_crossBoundary (c : StopCause) (mark : Nat) (w : PathWindow) (n : NextStretch) {s : State}
    (hw : WindowLaw s) (hr : s.startUp.run = .run) : CurveLaw (crossBoundary c mark w n s) := by
  unfold crossBoundary
  dsimp only
  have moved := hw.withPath_of_run hr { s.path with window := some (crossedWindow w n (s.holds n.item)) }
  refine curveLaw_restraintsAtWindow (AllButLoad.of_curveParts (curveParts_evaluate _ _)
    (allButLoad_zoneAtCrossing _ _ _ ?_ (capPresent_setCap _)))
  refine windowLaw_setCap ((windowLaw_of_exceptHold (exceptHold_of_curveParts (curveParts_setTag _))).2 ?_)
  split
  · exact moved
  · exact (windowLaw_of_exceptHold (exceptHold_of_curveParts (curveParts_pathFault _ _))).2 moved

theorem run_crossBoundary (c : StopCause) (mark : Nat) (w : PathWindow) (n : NextStretch) (s : State) :
    (crossBoundary c mark w n s).startUp.run = s.startUp.run := by
  unfold crossBoundary
  dsimp only
  rw [run_of_exceptBars (exceptBars_restraintsAtWindow _), run_of_exceptShow (exceptShow_evaluate _ _),
    run_of_exceptHold (exceptHold_zoneAtCrossing _ _ _ _), setCap, setLimit_startUp,
    run_of_curveParts (curveParts_setTag _)]
  split
  · rfl
  · exact (run_of_curveParts (curveParts_pathFault c _)).trans rfl

/-- A boundary test either changes nothing or is a crossing. -/
theorem boundaryTest_cases {s : State} (h : WindowLaw s) : boundaryTest s = s ∨ CurveLaw (boundaryTest s) := by
  unfold boundaryTest
  split
  · exact .inl rfl
  · next w hw =>
    split
    · exact .inl rfl
    · split
      · exact .inr (curveLaw_crossBoundary _ _ _ _ h (h.run_of_window hw))
      · exact .inl rfl

theorem windowLaw_boundaryTest {s : State} (h : WindowLaw s) : WindowLaw (boundaryTest s) := by
  rcases boundaryTest_cases h with same | law
  · rwa [same]
  · exact law.windowLaw

/-- R1: an odometer update sets all three entries anew. -/
theorem curveLaw_odometerUpdate {s : State} (h : WindowLaw s) : CurveLaw (odometerUpdate s) := by
  have tested : WindowLaw (missTest (boundaryTest s)) :=
    (windowLaw_of_exceptHold (exceptHold_of_curveParts (curveParts_missTest _))).2 (windowLaw_boundaryTest h)
  have zone := allButLoad_zoneAtOdometer (windowLaw_setCap tested) (capPresent_setCap _)
  exact (curveLaw_of_curveParts (curveParts_evaluate none _)).2 (curveLaw_setLoad rfl zone)

theorem curveLaw_addTravel {s : State} (hs : CurveLaw s) : CurveLaw (addTravel s) := by
  have window := hs.windowLaw
  unfold addTravel
  dsimp only
  split
  · next same =>
    have unseen : (withPath (travelled s.cfg.encoderPitch s.path) s).curveParts = s.curveParts := by
      simp only [State.curveParts, withPath_path, same]
      rfl
    exact (curveLaw_of_curveParts unseen).2 hs
  · exact curveLaw_odometerUpdate (window.withPath_of_window rfl)

/-- R2: a speed capture sets all three entries anew. -/
theorem curveLaw_speedCapture (v : Nat) {s : State} (h : WindowLaw s) : CurveLaw (speedCapture v s) := by
  unfold speedCapture
  dsimp only
  have window : WindowLaw (setCap (withPath { s.path with speed := v } s)) := h.withPath_of_window rfl
  have zone := allButLoad_setZone (exceptHold_of_curveParts (curveParts_governorTests _)) window (capPresent_setCap _)
  have load := curveLaw_setLoad (exceptBars_standstillChange _) zone
  refine (curveLaw_of_curveParts ((curveParts_evaluate none _).trans ?_)).2 load
  exact curveParts_of_exceptShow (exceptShow_startHold _)

theorem curveLaw_countEdge {s : State} (hs : CurveLaw s) : CurveLaw (countEdge s) := by
  have window := hs.windowLaw
  unfold countEdge
  split
  · exact hs
  · split
    · exact hs
    · exact curveLaw_speedCapture _ (window.withPath_of_window rfl)

/-! ### Tags -/

@[simp] theorem curveParts_armMark (d : Nat) (m : CueMark) (s : State) : (armMark d m s).curveParts = s.curveParts := by
  unfold armMark
  split
  · rfl
  · exact curveParts_armCue _ _ _ _ _

/-- R118, R117: the entry of a LOAD stretch sets LOAD anew, the dispatched flag being off. -/
theorem curveLaw_loadStretchEntry {s : State} (hs : CurveLaw s) : CurveLaw (loadStretchEntry s) := by
  have cues : CurveLaw (cuesAtLoad s) :=
    (curveLaw_of_curveParts (curveParts_of_exceptShow (exceptShow_cuesAtLoad s))).2 hs
  exact (curveLaw_of_curveParts (curveParts_of_exceptShow (exceptShow_invalidateCache _))).2
    (curveLaw_restraintsAtLoad cues.allButLoad)

/-- R11: an installation sets all three entries anew. -/
theorem curveLaw_installTag (t : GoodTag) (confirmed : Bool) {s : State} (h : WindowLaw s)
    (hr : s.startUp.run = .run) : CurveLaw (installTag t confirmed s) := by
  unfold installTag
  dsimp only
  set placed := withPath { s.path with
    window := some (installedWindow s.path.odometer t confirmed), lastTag := some t.number, pos := .tracking } s
  have window : WindowLaw (setCap (setTag placed)) := h.withPath_of_run hr _
  have tested : AllButLoad (zoneAtInstall (boundaryTest (setCap (setTag placed)))) := by
    rcases boundaryTest_cases window with same | law
    · rw [same]
      exact allButLoad_zoneAtInstall window (capPresent_setCap _) nofun
    · obtain ⟨⟨hw, hc, hz⟩, _⟩ := (curveLaw_iff _).1 law
      exact allButLoad_zoneAtInstall hw hc fun _ => hz
  have handed : CurveLaw (evaluate none (restraintsAtWindow (zoneAtInstall (boundaryTest (setCap (setTag placed)))))) :=
    (curveLaw_of_curveParts (curveParts_evaluate none _)).2 (curveLaw_restraintsAtWindow tested)
  refine (curveLaw_of_curveParts ((curveParts_armMark _ _ _).trans (curveParts_armMark _ _ _))).2 ?_
  split
  · exact curveLaw_loadStretchEntry handed
  · exact handed

theorem curveLaw_laterTag (t : GoodTag) {s : State} (hs : CurveLaw s) : CurveLaw (laterTag t s) := by
  have window := hs.windowLaw
  have wrong : CurveLaw (wrongTag s) := (curveLaw_of_curveParts (curveParts_wrongTag s)).2 hs
  unfold laterTag
  split
  · exact wrong
  · next w hw =>
    have hr := window.run_of_window hw
    split
    · exact curveLaw_installTag _ _ window hr
    · split
      · exact wrong
      · next n hn =>
        split
        · have crossed := curveLaw_crossBoundary .positionConflict s.path.odometer w n window hr
          exact curveLaw_installTag _ _ crossed.windowLaw ((run_crossBoundary _ _ _ _ _).trans hr)
        · exact wrong

theorem curveLaw_takeTag (t : GoodTag) {s : State} (hs : CurveLaw s) (hr : s.startUp.run = .run) :
    CurveLaw (takeTag t s) := by
  unfold takeTag
  split
  · exact hs
  · split
    · unfold firstTag
      split
      · exact (curveLaw_of_curveParts (curveParts_pathFault _ s)).2 hs
      · exact curveLaw_installTag _ _ hs.windowLaw hr
    · exact curveLaw_laterTag t hs

end Sys2Proof.Machine
end

section
/-! SUPPORT. O9, command by command: what the events of the other blocks keep of the curve law, the reset and start-up
events, which leave the part without a window, and the step. -/

namespace Sys2Proof.Machine

/-- A command after which the curve law holds as it did before. -/
def KeepsCurves (f : State → Out) : Prop :=
  ∀ s t : State, CurveLaw s → f s = .next t → CurveLaw t

/-- The time that passes and the POSE at once are no part of the law; what counts is the effect. -/
theorem keepsCurves_event {dt : Nat} {f : State → State} (hf : ∀ s, CurveLaw s → CurveLaw (f s)) :
    KeepsCurves (event dt f) := by
  intro s t hs h
  cases h
  exact (curveLaw_of_curveParts (curveParts_of_exceptShow (exceptShow_settle _ _))).2
    (hf _ ((curveLaw_of_curveParts (curveParts_advance dt s)).2 hs))

theorem keepsCurves_event_of_parts {dt : Nat} {f : State → State} (hf : ∀ s, (f s).curveParts = s.curveParts) :
    KeepsCurves (event dt f) :=
  keepsCurves_event fun s => (curveLaw_of_curveParts (hf s)).2

/-! ### The Path Tracker -/

@[simp] theorem curveParts_withReceiver (r : TagReceiver) (s : State) : (withReceiver r s).curveParts = s.curveParts :=
  rfl

@[simp] theorem curveParts_countTagError (s : State) : (countTagError s).curveParts = s.curveParts := rfl

theorem keepsCurves_encEdge (dt : Nat) : KeepsCurves (execEncEdge dt) :=
  keepsCurves_event fun s hs => by
    split
    · exact curveLaw_countEdge (curveLaw_addTravel (s := restartOverflow s) hs)
    · exact hs

theorem keepsCurves_captureOverflow (dt : Nat) : KeepsCurves (execCaptureOverflow dt) :=
  keepsCurves_event fun s hs => by
    split
    · exact curveLaw_speedCapture 0 (hs.windowLaw.withPath_of_window rfl)
    · exact hs

theorem run_of_recordBegan {since : Nat} {s : State} (h : recordBegan since s = true) : s.startUp.run = .run := by
  simp only [recordBegan, Bool.and_eq_true, beq_iff_eq] at h
  exact h.1

theorem keepsCurves_tagRecord (dt span : Nat) (bytes : Vector Byte 20) : KeepsCurves (execTagRecord dt span bytes) :=
  keepsCurves_event fun s hs => by
    split
    · next began =>
      dsimp only
      split
      · next t _ =>
        have hr : (withReceiver ⟨s.nowUs, true, false⟩ s).startUp.run = .run := run_of_recordBegan (s := s) began
        exact curveLaw_takeTag t ((curveLaw_of_curveParts (curveParts_withReceiver _ s)).2 hs) hr
      · exact hs
    · exact hs

theorem keepsCurves_tagIdleTimeout (dt span : Nat) : KeepsCurves (execTagIdleTimeout dt span) :=
  keepsCurves_event_of_parts fun s => by split <;> simp

theorem keepsCurves_tagCharacterError (dt span : Nat) : KeepsCurves (execTagCharacterError dt span) :=
  keepsCurves_event_of_parts fun s => by split <;> simp

theorem keepsCurves_tagExcessCharacters (dt : Nat) : KeepsCurves (execTagExcessCharacters dt) :=
  keepsCurves_event_of_parts fun s => by
    dsimp only
    split
    · split <;> simp
    · rfl

/-! ### The Zone Controller -/

theorem keepsCurves_announceTimerExpiry (dt : Nat) : KeepsCurves (execAnnounceTimerExpiry dt) :=
  keepsCurves_event_of_parts fun s => by
    split
    · split
      · exact curveParts_offerFrame _ _ _
      · rfl
    · rfl

theorem keepsCurves_neighbourAgeing (dt peer : Nat) : KeepsCurves (execNeighbourAgeing dt peer) :=
  keepsCurves_event fun s hs => by
    split
    · dsimp only
      split
      · exact hs
      · refine curveLaw_tableChanged ((curveLaw_of_curveParts ?_).2 hs)
        split <;> simp
    · exact hs

theorem keepsCurves_claimWindowExpiry (dt : Nat) : KeepsCurves (execClaimWindowExpiry dt) :=
  keepsCurves_event fun s hs => by
    split
    · exact curveLaw_claimTest hs
    · exact hs

/-! ### The Motion Governor -/

theorem keepsCurves_drivePeriod (dt : Nat) : KeepsCurves (execDrivePeriod dt) :=
  keepsCurves_event_of_parts fun s => by split <;> simp

theorem keepsCurves_standstillTimerExpiry (dt : Nat) : KeepsCurves (execStandstillTimerExpiry dt) :=
  keepsCurves_event_of_parts fun s => by
    split
    · split
      · exact curveParts_withGovernor rfl
      · rfl
    · rfl

theorem keepsCurves_overspeedTimerExpiry (dt : Nat) : KeepsCurves (execOverspeedTimerExpiry dt) :=
  keepsCurves_event_of_parts fun s => by
    split
    · exact (curveParts_raiseStop _ _).trans (curveParts_withGovernor rfl)
    · rfl

@[simp] theorem curveParts_setChain (high : Bool) (s : State) : (setChain high s).curveParts = s.curveParts := rfl

theorem keepsCurves_chainOpen (dt : Nat) : KeepsCurves (execChainOpen dt) :=
  keepsCurves_event_of_parts fun s => by
    split
    · split <;> simp
    · rfl

theorem keepsCurves_chainClose (dt : Nat) : KeepsCurves (execChainClose dt) :=
  keepsCurves_event_of_parts (curveParts_setChain true)

/-! ### The Restraint Monitor -/

theorem keepsCurves_suspectTimerExpiry (dt bar : Nat) : KeepsCurves (execSuspectTimerExpiry dt bar) :=
  keepsCurves_event_of_parts fun s => by
    dsimp only
    split <;> simp

theorem keepsCurves_spielRepeatExpiry (dt : Nat) : KeepsCurves (execSpielRepeatExpiry dt) :=
  keepsCurves_event_of_parts fun s => by
    split
    · split
      · exact (curveParts_startSpiel _).trans (curveParts_withRestraints rfl)
      · rfl
    · rfl

/-! ### The Steering Controller and the Analog Scanner -/

@[simp] theorem curveParts_guideWeak (s : State) : (guideWeak s).curveParts = s.curveParts := by
  unfold guideWeak
  split
  · rfl
  · split <;> rfl
  · rfl
  · rfl

@[simp] theorem curveParts_guideDelivered (l r : Nat) (s : State) :
    (guideDelivered l r s).curveParts = s.curveParts := by
  unfold guideDelivered
  split
  · exact curveParts_guideWeak s
  · rfl

@[simp] theorem curveParts_setList (l : ScanList) (v : ListState) (s : State) :
    (setList l v s).curveParts = s.curveParts := by
  cases l <;> rfl

@[simp] theorem curveParts_beginScan (l : ScanList) (s : State) : (beginScan l s).curveParts = s.curveParts :=
  (curveParts_withScanner _ _).trans (curveParts_setList l .running s)

@[simp] theorem curveParts_trigger (l : ScanList) (s : State) : (trigger l s).curveParts = s.curveParts := by
  unfold trigger
  split
  · split
    · split <;> simp
    · rfl
    · rfl
  · rfl

@[simp] theorem curveParts_releaseConverter (l : ScanList) (s : State) :
    (releaseConverter l s).curveParts = s.curveParts := by
  unfold releaseConverter
  dsimp only
  split
  · simp
  · split <;> simp

@[simp] theorem curveParts_setLatch (i : Nat) (x : LatchInput) (s : State) :
    (setLatch i x s).curveParts = s.curveParts := rfl

theorem keepsCurves_guideLossExpiry (dt : Nat) : KeepsCurves (execGuideLossExpiry dt) :=
  keepsCurves_event_of_parts fun s => by split <;> rfl

theorem keepsCurves_restraintScanTimerExpiry (dt : Nat) : KeepsCurves (execRestraintScanTimerExpiry dt) :=
  keepsCurves_event_of_parts fun s => by
    split
    · split <;> simp
    · rfl

theorem keepsCurves_scanEnd (dt : Nat) (channels : Vector Conversion 10) : KeepsCurves (execScanEnd dt channels) :=
  keepsCurves_event_of_parts fun s => by
    split
    · split
      · simp [endGuideScan]
      · simp [endRestraintScan]
    · rfl

theorem keepsCurves_latchEdge (dt latch : Nat) (high : Bool) : KeepsCurves (execLatchEdge dt latch high) :=
  keepsCurves_event_of_parts fun s => by
    unfold latchEdge
    dsimp only
    split <;> simp

theorem keepsCurves_latchSettleExpiry (dt latch : Nat) : KeepsCurves (execLatchSettleExpiry dt latch) :=
  keepsCurves_event_of_parts fun s => by
    split
    · unfold latchSettles
      dsimp only
      split <;> simp
    · rfl

theorem keepsCurves_servoFrameStart (dt : Nat) : KeepsCurves (execServoFrameStart dt) :=
  keepsCurves_event_of_parts fun s => by
    split
    · split <;> simp [frameStarts]
    · rfl

/-! ### The show -/

theorem keepsCurves_readComplete (dt : Nat) (data : BlockData) : KeepsCurves (execReadComplete dt data) :=
  keepsCurves_event_of_parts fun s => by
    split
    · split
      · exact curveParts_of_exceptShow (exceptShow_finishRead _ _ _ s)
      · rfl
    · rfl

theorem keepsCurves_sceneTimeReached (dt scene : Nat) : KeepsCurves (execSceneTimeReached dt scene) :=
  keepsCurves_event_of_parts fun s => by
    dsimp only
    split <;> simp

theorem keepsCurves_sceneClockExpiry (dt scene : Nat) : KeepsCurves (execSceneClockExpiry dt scene) :=
  keepsCurves_event_of_parts fun s => by
    split
    · rfl
    · split
      · split
        · exact curveParts_of_exceptShow (exceptShow_expireClock _ _ s)
        · rfl
      · rfl

theorem keepsCurves_showHoldExpiry (dt : Nat) : KeepsCurves (execShowHoldExpiry dt) :=
  keepsCurves_event_of_parts fun s => by
    split
    · split <;> rfl
    · rfl

theorem keepsCurves_effectTimerExpiry (dt line : Nat) : KeepsCurves (execEffectTimerExpiry dt line) :=
  keepsCurves_event_of_parts fun s => by
    split
    · rfl
    · split
      · split <;> rfl
      · split <;> rfl
      · rfl

theorem keepsCurves_outputPeriod (dt : Nat) : KeepsCurves (execOutputPeriod dt) :=
  keepsCurves_event_of_parts fun s => by
    split
    · dsimp only
      split
      · exact curveParts_of_exceptSound
          ((exceptSound_each exceptSound_advanceVoice _ _).trans (exceptSound_withSound _ s))
      · rfl
    · rfl

theorem keepsCurves_fadeEnd (dt voice : Nat) : KeepsCurves (execFadeEnd dt voice) :=
  keepsCurves_event_of_parts fun s => by
    dsimp only
    split
    · split
      · exact curveParts_of_exceptSound (exceptSound_toIdle voice s)
      · rfl
    · rfl

theorem keepsCurves_lockedVoiceTick (dt voice : Nat) : KeepsCurves (execLockedVoiceTick dt voice) :=
  keepsCurves_event_of_parts fun s => by
    dsimp only
    split
    · exact curveParts_of_exceptSound (exceptSound_reworkStarts _ s)
    · rfl

theorem keepsCurves_idleTimerExpiry (dt : Nat) : KeepsCurves (execIdleTimerExpiry dt) :=
  keepsCurves_event_of_parts fun s => by
    split
    · split <;> rfl
    · rfl

theorem keepsCurves_wakeTimerExpiry (dt : Nat) : KeepsCurves (execWakeTimerExpiry dt) :=
  keepsCurves_event_of_parts fun s => by
    split
    · split
      · exact curveParts_of_exceptSound (by simp)
      · rfl
    · rfl

/-! ### The Channel Interface -/

@[simp] theorem curveParts_receiverDone (s : State) : (receiverDone s).curveParts = s.curveParts := rfl

@[simp] theorem curveParts_startDeafTimer (s : State) : (startDeafTimer s).curveParts = s.curveParts := rfl

@[simp] theorem curveParts_setChannel (s : State) : (setChannel s).curveParts = s.curveParts := rfl

@[simp] theorem curveParts_endAttempt (s : State) : (endAttempt s).curveParts = s.curveParts := rfl

@[simp] theorem curveParts_offerPending (s : State) : (offerPending s).curveParts = s.curveParts := by
  unfold offerPending
  split <;> simp

@[simp] theorem curveParts_poseSent (p : PoseBody) (s : State) : (poseSent p s).curveParts = s.curveParts := rfl

@[simp] theorem curveParts_attemptSucceeds (f : TxFrame) (s : State) :
    (attemptSucceeds f s).curveParts = s.curveParts := by
  unfold attemptSucceeds
  dsimp only
  rw [curveParts_offerPending]
  split <;> simp

@[simp] theorem curveParts_poseGivenUp (s : State) : (poseGivenUp s).curveParts = s.curveParts := by
  unfold poseGivenUp
  dsimp only
  split <;> rfl

@[simp] theorem curveParts_collide (f : TxFrame) (s : State) : (collide f s).curveParts = s.curveParts := by
  unfold collide giveUp
  dsimp only
  split
  · rfl
  · rw [curveParts_offerPending]
    split
    · exact curveParts_poseGivenUp _
    · rfl

theorem keepsCurves_attemptStart (dt : Nat) : KeepsCurves (execAttemptStart dt) :=
  keepsCurves_event_of_parts fun s => by split <;> rfl

theorem keepsCurves_attemptSuccess (dt : Nat) : KeepsCurves (execAttemptSuccess dt) :=
  keepsCurves_event_of_parts fun s => by
    split
    · split <;> simp
    · rfl

theorem keepsCurves_collision (dt : Nat) : KeepsCurves (execCollision dt) :=
  keepsCurves_event_of_parts fun s => by split <;> simp

theorem keepsCurves_retryWaitExpiry (dt : Nat) : KeepsCurves (execRetryWaitExpiry dt) :=
  keepsCurves_event_of_parts fun s => curveParts_mapQueue _ s

theorem keepsCurves_deafTimerExpiry (dt : Nat) : KeepsCurves (execDeafTimerExpiry dt) :=
  keepsCurves_event_of_parts fun s => by split <;> simp

theorem keepsCurves_cdRise (dt : Nat) : KeepsCurves (execCdRise dt) :=
  keepsCurves_event_of_parts fun s => by split <;> simp

theorem keepsCurves_cdFall (dt : Nat) : KeepsCurves (execCdFall dt) :=
  keepsCurves_event_of_parts fun s => by split <;> simp

theorem keepsCurves_frameDiscarded (dt : Nat) (bytes : List Byte) : KeepsCurves (execFrameDiscarded dt bytes) :=
  keepsCurves_event_of_parts fun s => by split <;> simp

theorem keepsCurves_duplicateId (dt : Nat) (bytes : List Byte) : KeepsCurves (execDuplicateId dt bytes) :=
  keepsCurves_event_of_parts fun s => by
    split
    · exact (curveParts_raiseStop _ _).trans rfl
    · rfl

/-! ### Resets and start-up -/

/-- A change of run state or image while no window is in place. -/
theorem curveLaw_withStartUp {s : State} {x : StartUpState} (hs : CurveLaw s) (hw : s.path.window = none)
    (hx : x.config = none → x.run ≠ .run) : CurveLaw (withStartUp x s) := by
  obtain ⟨_, entries⟩ := (curveLaw_iff_of_no_window hw).1 hs
  exact (curveLaw_iff_of_no_window (s := withStartUp x s) hw).2 ⟨hx, entries⟩

theorem window_of_loading {s : State} (hs : CurveLaw s) (hr : s.startUp.run = .loading) : s.path.window = none :=
  hs.1 (by simp [hr])

theorem curveLaw_startRestraints {s : State} (hs : CurveLaw s) (hw : s.path.window = none) :
    CurveLaw (startRestraints s) :=
  (curveLaw_iff_of_no_window (s := startRestraints s) hw).2 ((curveLaw_iff_of_no_window hw).1 hs)

theorem curveLaw_poweredOn (s : State) : CurveLaw (poweredOn s) :=
  (curveLaw_iff_of_no_window rfl).2 ⟨fun _ => nofun, rfl, rfl, rfl⟩

theorem keepsCurves_powerOnReset (dt : Nat) : KeepsCurves (execPowerOnReset dt) :=
  keepsCurves_event fun s _ => by
    unfold powerOn
    split
    · exact curveLaw_poweredOn s
    · exact (curveLaw_of_curveParts (curveParts_raiseStop _ _)).2 (curveLaw_poweredOn s)

theorem keepsCurves_configBlockLoaded (dt : Nat) (bytes : List Byte) : KeepsCurves (execConfigBlockLoaded dt bytes) :=
  keepsCurves_event fun s hs => by
    split
    · next loading =>
      have hw := window_of_loading hs loading.1
      split
      · exact curveLaw_withStartUp hs hw nofun
      · exact (curveLaw_of_curveParts ((curveParts_raiseStop _ _).trans (curveParts_startDeafTimer _))).2
          (curveLaw_withStartUp hs hw fun _ => nofun)
    · exact hs

@[simp] theorem curveParts_liftSafety (s : State) : (liftSafety s).curveParts = s.curveParts := by
  unfold liftSafety
  split <;> rfl

@[simp] theorem curveParts_startAnnounce (s : State) : (startAnnounce s).curveParts = s.curveParts := rfl

@[simp] theorem curveParts_startScanner (s : State) : (startScanner s).curveParts = s.curveParts :=
  curveParts_withScanner _ s

@[simp] theorem curveParts_startSteering (w : WorkingLimits) (s : State) :
    (startSteering w s).curveParts = s.curveParts :=
  curveParts_withSteering _ s

/-- R161: the part enters RUN with an image and without a window. -/
theorem curveLaw_enterRun {s : State} (hs : CurveLaw s) (hw : s.path.window = none) (hc : s.startUp.config ≠ none) :
    CurveLaw (enterRun s) := by
  have running := curveLaw_withStartUp (x := { s.startUp with run := .run }) hs hw fun h => absurd h hc
  have started (u : State) (hu : u.curveParts = (withStartUp { s.startUp with run := .run } s).curveParts) :
      CurveLaw (startRestraints u) :=
    curveLaw_startRestraints ((curveLaw_of_curveParts hu).2 running) (window_none_of_curveParts hu hw)
  have receiver (r : TagReceiver) (u : State) : (withPath { u.path with receiver := r } u).curveParts = u.curveParts :=
    rfl
  have told (u : State) : (if u.cues.isSuspended then takeFaultLevels u else u).curveParts = u.curveParts := by
    split <;> rfl
  unfold enterRun
  refine (curveLaw_of_curveParts (told _)).2 (started _ ?_)
  rw [curveParts_startSteering, curveParts_startScanner, receiver, curveParts_startAnnounce, curveParts_startDeafTimer,
    curveParts_liftSafety]

theorem keepsCurves_contentCheckDone (dt : Nat) (header clips cues : List Byte) :
    KeepsCurves (execContentCheckDone dt header clips cues) :=
  keepsCurves_event fun s hs => by
    split
    · next loading =>
      have hw := window_of_loading hs loading.1
      have hc : s.startUp.config ≠ none := Option.isSome_iff_ne_none.1 loading.2
      dsimp only
      unfold takeCheckResult
      dsimp only
      split
      · exact curveLaw_enterRun hs hw hc
      · exact curveLaw_enterRun hs hw hc
    · exact hs

theorem exceptSound_reofferPin (s : State) (place : Nat) : (reofferPin s place).exceptSound = s.exceptSound := by
  unfold reofferPin
  split
  · dsimp only
    split <;> simp
  · simp
  · rfl

theorem exceptSound_warmSound (s : State) : (warmSound s).exceptSound = s.exceptSound :=
  (exceptSound_mapSlots _ _).trans (exceptSound_withSound _ s)

theorem curveParts_tellAnew (s : State) : (tellAnew s).curveParts = s.curveParts := by
  unfold tellAnew
  split
  · exact curveParts_of_exceptShow (exceptShow_tellSafetyStop true s)
  · rfl

theorem curveLaw_warmGovernor {s : State} (hw : s.path.window = none)
    (hc : s.startUp.config = none → s.startUp.run ≠ .run) : CurveLaw (warmGovernor s) :=
  (curveLaw_iff_of_no_window (s := warmGovernor s) hw).2 ⟨hc, rfl, rfl, rfl⟩

/-- R162: a warm reset leaves the part without a window, with the three entries at their reset values. -/
theorem curveLaw_warmReset {s : State} (hs : CurveLaw s) : CurveLaw (warmReset s) := by
  have image := hs.windowLaw.2
  unfold warmReset
  refine (curveLaw_of_curveParts ((curveParts_tellAnew _).trans (curveParts_of_exceptSound
    ((exceptSound_each exceptSound_reofferPin _ _).trans ((exceptSound_warmSound _).trans
      (exceptSound_withContent _ _)))))).2 (curveLaw_warmGovernor rfl image)

theorem keepsCurves_restartLineRequest (dt : Nat) : KeepsCurves (execRestartLineRequest dt) :=
  keepsCurves_event fun s hs => by
    split
    · dsimp only
      split
      · exact curveLaw_warmReset (s := withRestart false s.scanner.restartSince false s) hs
      · exact hs
    · exact hs

theorem keepsCurves_restartLineReady (dt : Nat) : KeepsCurves (execRestartLineReady dt) :=
  keepsCurves_event_of_parts fun s => by split <;> rfl

theorem keepsCurves_restartLineEdge (dt : Nat) (high : Bool) : KeepsCurves (execRestartLineEdge dt high) :=
  keepsCurves_event_of_parts fun s => by
    unfold restartEdge
    split <;> rfl

/-! ### Frames received -/

/-- R24: an accepted frame may end DEAF, at which the claim is tested. -/
theorem curveLaw_acceptFrame (f : RawFrame) (b : RxBody) {s : State} (hs : CurveLaw s) :
    CurveLaw (acceptFrame f b s) := by
  unfold acceptFrame
  dsimp only
  refine (curveLaw_of_curveParts (curveParts_withChannel _ _)).2 ?_
  split
  · split
    · exact hs
    · exact curveLaw_claimTest hs
  · exact hs

theorem keepsCurves_onAccepted {dt : Nat} {bytes : List Byte} {own : RawFrame → RxBody → State → Option State}
    (h : ∀ f b s t, CurveLaw s → own f b s = some t → CurveLaw t) : KeepsCurves (event dt (onAccepted bytes own)) :=
  keepsCurves_event fun s hs => by
    unfold onAccepted
    split
    · next f b _ =>
      cases taken : own f b (acceptFrame f b s) with
      | none => exact hs
      | some t => exact h f b _ t (curveLaw_acceptFrame f b hs) taken
    · exact hs

theorem keepsCurves_poseReceived (dt : Nat) (bytes : List Byte) : KeepsCurves (execPoseReceived dt bytes) :=
  keepsCurves_onAccepted fun f b s t hs h => by
    split at h <;> [obtain rfl := Option.some.inj h; cases h]
    exact curveLaw_takePose _ _ hs

theorem keepsCurves_cueReceived (dt : Nat) (bytes : List Byte) : KeepsCurves (execCueReceived dt bytes) :=
  keepsCurves_onAccepted fun f b s t hs h => by
    split at h <;> [obtain rfl := Option.some.inj h; cases h]
    refine (curveLaw_of_curveParts ?_).2 hs
    unfold takeCue
    split <;> simp

theorem keepsCurves_syncReceived (dt : Nat) (bytes : List Byte) : KeepsCurves (execSyncReceived dt bytes) :=
  keepsCurves_onAccepted fun f b s t hs h => by
    split at h <;> [obtain rfl := Option.some.inj h; cases h]
    exact (curveLaw_of_curveParts (curveParts_of_exceptShow (exceptShow_takeSync _ _ s))).2 hs

theorem keepsCurves_checkReceived (dt : Nat) (bytes : List Byte) : KeepsCurves (execCheckReceived dt bytes) :=
  keepsCurves_onAccepted fun f b s t hs h => by
    split at h <;> [obtain rfl := Option.some.inj h; cases h]
    exact (curveLaw_of_curveParts (curveParts_takeCheck _ s)).2 hs

theorem keepsCurves_verdictReceived (dt : Nat) (bytes : List Byte) : KeepsCurves (execVerdictReceived dt bytes) :=
  keepsCurves_onAccepted fun f b s t hs h => by
    split at h <;> [obtain rfl := Option.some.inj h; cases h]
    exact hs

theorem keepsCurves_dispatchReceived (dt : Nat) (bytes : List Byte) : KeepsCurves (execDispatchReceived dt bytes) :=
  keepsCurves_onAccepted fun f b s t hs h => by
    split at h <;> [obtain rfl := Option.some.inj h; cases h]
    exact curveLaw_takeDispatch hs

theorem curveParts_clearFaults (mask : Nat) (s : State) : (clearFaults mask s).curveParts = s.curveParts := by
  unfold clearFaults
  dsimp only
  rw [curveParts_latchOnly, curveParts_withFaults]
  split <;> simp

theorem keepsCurves_clearFaults (dt : Nat) (bytes : List Byte) : KeepsCurves (execClearFaults dt bytes) :=
  keepsCurves_onAccepted fun f b s t hs h => by
    split at h <;> [obtain rfl := Option.some.inj h; cases h]
    exact (curveLaw_of_curveParts (curveParts_clearFaults _ s)).2 hs

theorem keepsCurves_clearPeer (dt : Nat) (bytes : List Byte) : KeepsCurves (execClearPeer dt bytes) :=
  keepsCurves_onAccepted fun f b s t hs h => by
    split at h <;> [obtain rfl := Option.some.inj h; cases h]
    exact curveLaw_clearNeighbour _ hs

theorem keepsCurves_holdall (dt : Nat) (bytes : List Byte) : KeepsCurves (execHoldall dt bytes) :=
  keepsCurves_onAccepted fun f b s t hs h => by
    split at h <;> [obtain rfl := Option.some.inj h; cases h]
    exact (curveLaw_of_curveParts (curveParts_setLimit rfl 0 s)).2 hs

@[simp] theorem curveParts_endChainStop (s : State) : (endChainStop s).curveParts = s.curveParts := by
  unfold endChainStop
  split
  · exact (curveParts_latchOnly _ _).trans rfl
  · rfl

@[simp] theorem curveParts_liftRide (s : State) : (liftRide s).curveParts = s.curveParts := by
  unfold liftRide
  split <;> rfl

@[simp] theorem curveParts_takeRecover (addressed : Bool) (s : State) :
    (takeRecover addressed s).curveParts = s.curveParts := by
  unfold takeRecover
  split <;> rfl

theorem curveParts_takeResume (addressed recover : Bool) (s : State) :
    (takeResume addressed recover s).curveParts = s.curveParts := by
  unfold takeResume
  dsimp only
  split <;> simp

theorem keepsCurves_resume (dt : Nat) (bytes : List Byte) : KeepsCurves (execResume dt bytes) :=
  keepsCurves_onAccepted fun f b s t hs h => by
    split at h <;> [obtain rfl := Option.some.inj h; cases h]
    exact (curveLaw_of_curveParts (curveParts_takeResume _ _ s)).2 hs

theorem keepsCurves_query (dt : Nat) (bytes : List Byte) : KeepsCurves (execQuery dt bytes) :=
  keepsCurves_onAccepted fun f b s t hs h => by
    split at h <;> [obtain rfl := Option.some.inj h; cases h]
    exact (curveLaw_of_curveParts (curveParts_offerFrame _ _ s)).2 hs

theorem keepsCurves_statusReceived (dt : Nat) (bytes : List Byte) : KeepsCurves (execStatusReceived dt bytes) :=
  keepsCurves_onAccepted fun f b s t hs h => by
    split at h <;> [obtain rfl := Option.some.inj h; cases h]
    exact hs

theorem keepsCurves_restart (dt : Nat) (bytes : List Byte) : KeepsCurves (execRestart dt bytes) :=
  keepsCurves_onAccepted fun f b s t hs h => by
    split at h <;> [obtain rfl := Option.some.inj h; cases h]
    unfold takeRestart
    split
    · exact curveLaw_warmReset hs
    · exact hs

/-! ### Every command -/

theorem keepsCurves_exec (i : Instr) : KeepsCurves (exec i) := by
  cases i with
  | powerOnReset dt => exact keepsCurves_powerOnReset dt
  | configBlockLoaded dt bytes => exact keepsCurves_configBlockLoaded dt bytes
  | contentCheckDone dt header clips cues => exact keepsCurves_contentCheckDone dt header clips cues
  | encEdge dt => exact keepsCurves_encEdge dt
  | captureOverflow dt => exact keepsCurves_captureOverflow dt
  | tagRecord dt span bytes => exact keepsCurves_tagRecord dt span bytes
  | tagIdleTimeout dt span => exact keepsCurves_tagIdleTimeout dt span
  | frameDiscarded dt bytes => exact keepsCurves_frameDiscarded dt bytes
  | duplicateId dt bytes => exact keepsCurves_duplicateId dt bytes
  | poseReceived dt bytes => exact keepsCurves_poseReceived dt bytes
  | cueReceived dt bytes => exact keepsCurves_cueReceived dt bytes
  | syncReceived dt bytes => exact keepsCurves_syncReceived dt bytes
  | checkReceived dt bytes => exact keepsCurves_checkReceived dt bytes
  | verdictReceived dt bytes => exact keepsCurves_verdictReceived dt bytes
  | dispatchReceived dt bytes => exact keepsCurves_dispatchReceived dt bytes
  | clearFaults dt bytes => exact keepsCurves_clearFaults dt bytes
  | clearPeer dt bytes => exact keepsCurves_clearPeer dt bytes
  | holdall dt bytes => exact keepsCurves_holdall dt bytes
  | resume dt bytes => exact keepsCurves_resume dt bytes
  | query dt bytes => exact keepsCurves_query dt bytes
  | statusReceived dt bytes => exact keepsCurves_statusReceived dt bytes
  | restart dt bytes => exact keepsCurves_restart dt bytes
  | attemptStart dt => exact keepsCurves_attemptStart dt
  | attemptSuccess dt => exact keepsCurves_attemptSuccess dt
  | collision dt => exact keepsCurves_collision dt
  | retryWaitExpiry dt => exact keepsCurves_retryWaitExpiry dt
  | deafTimerExpiry dt => exact keepsCurves_deafTimerExpiry dt
  | announceTimerExpiry dt => exact keepsCurves_announceTimerExpiry dt
  | neighbourAgeing dt peer => exact keepsCurves_neighbourAgeing dt peer
  | claimWindowExpiry dt => exact keepsCurves_claimWindowExpiry dt
  | drivePeriod dt => exact keepsCurves_drivePeriod dt
  | standstillTimerExpiry dt => exact keepsCurves_standstillTimerExpiry dt
  | overspeedTimerExpiry dt => exact keepsCurves_overspeedTimerExpiry dt
  | chainOpen dt => exact keepsCurves_chainOpen dt
  | chainClose dt => exact keepsCurves_chainClose dt
  | restartLineRequest dt => exact keepsCurves_restartLineRequest dt
  | restartLineReady dt => exact keepsCurves_restartLineReady dt
  | restraintScanTimerExpiry dt => exact keepsCurves_restraintScanTimerExpiry dt
  | scanEnd dt channels => exact keepsCurves_scanEnd dt channels
  | latchEdge dt latch high => exact keepsCurves_latchEdge dt latch high
  | latchSettleExpiry dt latch => exact keepsCurves_latchSettleExpiry dt latch
  | servoFrameStart dt => exact keepsCurves_servoFrameStart dt
  | guideLossExpiry dt => exact keepsCurves_guideLossExpiry dt
  | suspectTimerExpiry dt bar => exact keepsCurves_suspectTimerExpiry dt bar
  | spielRepeatExpiry dt => exact keepsCurves_spielRepeatExpiry dt
  | readComplete dt data => exact keepsCurves_readComplete dt data
  | sceneTimeReached dt scene => exact keepsCurves_sceneTimeReached dt scene
  | sceneClockExpiry dt scene => exact keepsCurves_sceneClockExpiry dt scene
  | showHoldExpiry dt => exact keepsCurves_showHoldExpiry dt
  | effectTimerExpiry dt line => exact keepsCurves_effectTimerExpiry dt line
  | outputPeriod dt => exact keepsCurves_outputPeriod dt
  | fadeEnd dt voice => exact keepsCurves_fadeEnd dt voice
  | lockedVoiceTick dt voice => exact keepsCurves_lockedVoiceTick dt voice
  | idleTimerExpiry dt => exact keepsCurves_idleTimerExpiry dt
  | wakeTimerExpiry dt => exact keepsCurves_wakeTimerExpiry dt
  | tagCharacterError dt span => exact keepsCurves_tagCharacterError dt span
  | tagExcessCharacters dt => exact keepsCurves_tagExcessCharacters dt
  | cdRise dt => exact keepsCurves_cdRise dt
  | cdFall dt => exact keepsCurves_cdFall dt
  | restartLineEdge dt high => exact keepsCurves_restartLineEdge dt high

/-- Settles O9: each command keeps the law (`keepsCurves_exec`), and the law does not read the queue of commands. -/
theorem stepKeepsCurveEntries : Obligations.StepKeepsCurveEntries := by
  unfold Obligations.StepKeepsCurveEntries
  intro s t hs h
  unfold step at h
  split at h
  · cases h
    exact hs
  · next c rest _ =>
    have taken : CurveLaw { s with pending := rest } := (curveLaw_of_curveParts (b := s) rfl).2 hs
    exact keepsCurves_exec c _ t taken h

end Sys2Proof.Machine
end

section
/-! SUPPORT. O10, the CHANNEL entry (R34). The law reads two flags of the Channel Interface and one entry of the limit
table (`channelParts`). No other block writes any of the three, so what most operations owe is a frame: they keep
`channelParts`. The Channel Interface sets CHANNEL anew (`setChannel`) wherever it changes one of the flags, and a warm
reset works the entry out from the flags that it keeps (R35); after either the law holds whatever held before. -/

namespace Sys2Proof.Machine

/-! ### What the law reads -/

/-- DEAF, the TX_FAIL condition and the CHANNEL entry. -/
def State.channelParts (s : State) : Bool × Bool × Nat :=
  (s.channel.deaf, s.channel.txFail, s.governor.limits.channel)

section Views

variable {a b : State}

/-- What keeps the parts that the law reads keeps the law. -/
theorem channelLaw_of_channelParts (h : a.channelParts = b.channelParts) : ChannelLaw a ↔ ChannelLaw b := by
  simp only [State.channelParts, Prod.mk.injEq] at h
  obtain ⟨deaf, txFail, entry⟩ := h
  unfold ChannelLaw
  rw [deaf, txFail, entry]

theorem channelParts_of_exceptSound (h : a.exceptSound = b.exceptSound) : a.channelParts = b.channelParts := by
  have g := congrArg State.channelParts h
  exact g

theorem channelParts_of_exceptShow (h : a.exceptShow = b.exceptShow) : a.channelParts = b.channelParts := by
  have g := congrArg State.channelParts h
  exact g

theorem channelParts_of_exceptBars (h : a.exceptBars = b.exceptBars) : a.channelParts = b.channelParts := by
  have g := congrArg State.channelParts h
  exact g

end Views

/-- R34: once CHANNEL is set anew the law holds. -/
theorem channelLaw_setChannel (s : State) : ChannelLaw (setChannel s) := by
  simp [ChannelLaw, setChannel]

/-! ### Updates of one block -/

@[simp] theorem channelParts_advance (dt : Nat) (s : State) : (advance dt s).channelParts = s.channelParts := rfl

@[simp] theorem channelParts_withStartUp (x : StartUpState) (s : State) :
    (withStartUp x s).channelParts = s.channelParts := rfl

@[simp] theorem channelParts_withPath (x : PathState) (s : State) : (withPath x s).channelParts = s.channelParts := rfl

@[simp] theorem channelParts_withZone (x : ZoneState) (s : State) : (withZone x s).channelParts = s.channelParts := rfl

@[simp] theorem channelParts_withScanner (x : ScannerState) (s : State) :
    (withScanner x s).channelParts = s.channelParts := rfl

@[simp] theorem channelParts_withSteering (x : SteeringState) (s : State) :
    (withSteering x s).channelParts = s.channelParts := rfl

@[simp] theorem channelParts_withRestraints (x : RestraintState) (s : State) :
    (withRestraints x s).channelParts = s.channelParts := rfl

@[simp] theorem channelParts_withContent (x : ContentState) (s : State) :
    (withContent x s).channelParts = s.channelParts := rfl

@[simp] theorem channelParts_mapQueue (f : List TxFrame → List TxFrame) (s : State) :
    (mapQueue f s).channelParts = s.channelParts := rfl

@[simp] theorem channelParts_raiseFault (k : FaultKind) (s : State) :
    (raiseFault k s).channelParts = s.channelParts := rfl

@[simp] theorem channelParts_withFaults (f : FaultSet) (s : State) :
    (withFaults f s).channelParts = s.channelParts := rfl

@[simp] theorem channelParts_setLimit {k : LimitSource} (h : k ≠ .channel) (v : Nat) (s : State) :
    (setLimit k v s).channelParts = s.channelParts := by
  cases k with
  | channel => exact absurd rfl h
  | cap | zone | tag | guide | load | showHold | ride | restraint | safety => rfl

/-- A change of the Motion Governor that keeps the CHANNEL entry. -/
theorem channelParts_withGovernor {g : GovernorState} {s : State} (h : g.limits.channel = s.governor.limits.channel) :
    (withGovernor g s).channelParts = s.channelParts := by
  simp [State.channelParts, h]

/-! ### The show and the queue of frames -/

@[simp] theorem channelParts_evaluate (f : Option (Nat × Nat)) (s : State) :
    (evaluate f s).channelParts = s.channelParts :=
  channelParts_of_exceptShow (exceptShow_evaluate f s)

@[simp] theorem channelParts_offerFrame (d : Nat) (b : TxBody) (s : State) :
    (offerFrame d b s).channelParts = s.channelParts :=
  channelParts_of_exceptShow (exceptShow_offerFrame d b s)

@[simp] theorem channelParts_armCue (c m : Nat) (o : Origin) (f : Option (Nat × Nat)) (s : State) :
    (armCue c m o f s).channelParts = s.channelParts :=
  channelParts_of_exceptShow (exceptShow_armCue c m o f s)

@[simp] theorem channelParts_startHold (s : State) : (startHold s).channelParts = s.channelParts :=
  channelParts_of_exceptShow (exceptShow_startHold s)

/-! ### The Motion Governor -/

/-- R71: a stop sets SAFETY and RIDE alone of the entries. -/
@[simp] theorem channelParts_raiseStop (c : StopCause) (s : State) : (raiseStop c s).channelParts = s.channelParts :=
  (channelParts_of_exceptShow (exceptShow_raiseStop c s)).trans rfl

/-- R76: the end of a stop sets SAFETY alone. -/
@[simp] theorem channelParts_latchOnly (c : CauseSet) (s : State) : (latchOnly c s).channelParts = s.channelParts := by
  refine (channelParts_of_exceptShow (exceptShow_latchOnly c s)).trans ?_
  split <;> rfl

@[simp] theorem channelParts_assistTest (s : State) : (assistTest s).channelParts = s.channelParts := by
  unfold assistTest
  split <;> rfl

@[simp] theorem channelParts_standstillTest (s : State) : (standstillTest s).channelParts = s.channelParts := by
  unfold standstillTest
  split
  · split <;> rfl
  · rfl

@[simp] theorem channelParts_overspeedTest (s : State) : (overspeedTest s).channelParts = s.channelParts := by
  unfold overspeedTest
  split
  · split
    · split <;> rfl
    · rfl
  · rfl

@[simp] theorem channelParts_governorTests (s : State) : (governorTests s).channelParts = s.channelParts := by
  simp [governorTests]

/-- R66, R67: an evaluation of the target only reads the limit table. -/
@[simp] theorem channelParts_evaluateTarget (s : State) : (evaluateTarget s).channelParts = s.channelParts := by
  have ramp (d : RampDirection) (rate limit target : Nat) :
      (withGovernor (ramped s.governor d rate limit target) s).channelParts = s.channelParts :=
    channelParts_withGovernor (congrArg LimitTable.channel (ramped_limits _ _ _ _ _))
  unfold evaluateTarget
  dsimp only
  split
  · exact ramp _ _ _ _
  · split
    · rfl
    · exact ramp _ _ _ _

@[simp] theorem channelParts_releaseBrake (before : Nat) (s : State) :
    (releaseBrake before s).channelParts = s.channelParts := by
  unfold releaseBrake
  split <;> rfl

@[simp] theorem channelParts_drivePeriod (s : State) : (drivePeriod s).channelParts = s.channelParts := by
  unfold drivePeriod
  dsimp only
  refine (channelParts_governorTests _).trans ((channelParts_withGovernor rfl).trans ?_)
  rw [channelParts_releaseBrake, channelParts_evaluateTarget, channelParts_withGovernor]
  rfl

/-! ### The Restraint Monitor -/

@[simp] theorem channelParts_standstillChange (s : State) : (standstillChange s).channelParts = s.channelParts :=
  channelParts_of_exceptBars (exceptBars_standstillChange s)

@[simp] theorem channelParts_restraintsAtWindow (s : State) : (restraintsAtWindow s).channelParts = s.channelParts :=
  channelParts_of_exceptBars (exceptBars_restraintsAtWindow s)

@[simp] theorem channelParts_latchDelivered (i : Nat) (l : LatchState) (s : State) :
    (latchDelivered i l s).channelParts = s.channelParts :=
  channelParts_of_exceptBars (exceptBars_latchDelivered i l s)

@[simp] theorem channelParts_recordDelivered (p : List Nat) (s : State) :
    (recordDelivered p s).channelParts = s.channelParts :=
  channelParts_of_exceptBars (exceptBars_recordDelivered p s)

@[simp] theorem channelParts_clearRestraints (s : State) : (clearRestraints s).channelParts = s.channelParts :=
  channelParts_of_exceptBars (exceptBars_clearRestraints s)

theorem channelParts_takeDispatch (s : State) : (takeDispatch s).channelParts = s.channelParts := by
  unfold takeDispatch
  split
  · exact channelParts_of_exceptBars (by simp)
  · split <;> rfl

/-! ### The Zone Controller -/

@[simp] theorem channelParts_setTag (s : State) : (setTag s).channelParts = s.channelParts := rfl

@[simp] theorem channelParts_setCap (s : State) : (setCap s).channelParts = s.channelParts := rfl

@[simp] theorem channelParts_setZone (s : State) : (setZone s).channelParts = s.channelParts := rfl

@[simp] theorem channelParts_setLoad (s : State) : (setLoad s).channelParts = s.channelParts := rfl

@[simp] theorem channelParts_setNeighbour (p : Nat) (n : Option Neighbour) (s : State) :
    (setNeighbour p n s).channelParts = s.channelParts := by
  unfold setNeighbour
  split <;> rfl

@[simp] theorem channelParts_startClaim (s : State) : (startClaim s).channelParts = s.channelParts := by
  unfold startClaim
  split
  · split <;> rfl
  · rfl

@[simp] theorem channelParts_confirmHere (s : State) : (confirmHere s).channelParts = s.channelParts := by
  unfold confirmHere
  split
  · split <;> rfl
  · rfl

@[simp] theorem channelParts_endStaleClaim (s : State) : (endStaleClaim s).channelParts = s.channelParts := by
  unfold endStaleClaim
  split
  · split <;> rfl
  · rfl

@[simp] theorem channelParts_completeClaim (it : ZoneItem) (s : State) :
    (completeClaim it s).channelParts = s.channelParts := by
  simp [completeClaim]

@[simp] theorem channelParts_claimTest (s : State) : (claimTest s).channelParts = s.channelParts := by
  unfold claimTest
  split
  · rfl
  · split
    · rfl
    · split <;> simp

@[simp] theorem channelParts_holdChanged (s : State) : (holdChanged s).channelParts = s.channelParts := by
  simp [holdChanged]

@[simp] theorem channelParts_tableChanged (s : State) : (tableChanged s).channelParts = s.channelParts := by
  simp [tableChanged]

@[simp] theorem channelParts_markHeard (p : Nat) (s : State) : (markHeard p s).channelParts = s.channelParts := by
  unfold markHeard
  split <;> rfl

@[simp] theorem channelParts_withdrawClaim (p : Nat) (n : Neighbour) (s : State) :
    (withdrawClaim p n s).channelParts = s.channelParts := by
  unfold withdrawClaim
  split
  · split <;> rfl
  · rfl

@[simp] theorem channelParts_dropEvidence (p : Nat) (s : State) : (dropEvidence p s).channelParts = s.channelParts := by
  unfold dropEvidence
  split <;> rfl

theorem channelParts_takePose (peer : Nat) (p : PoseBody) (s : State) :
    (takePose peer p s).channelParts = s.channelParts := by
  simp [takePose]

theorem channelParts_clearNeighbour (peer : Nat) (s : State) :
    (clearNeighbour peer s).channelParts = s.channelParts := by
  unfold clearNeighbour
  split
  · split <;> simp
  · rfl

@[simp] theorem channelParts_zoneAtInstall (s : State) : (zoneAtInstall s).channelParts = s.channelParts := by
  unfold zoneAtInstall
  split
  · rfl
  · dsimp only
    split <;> simp

@[simp] theorem channelParts_zoneAtCrossing (left here : ZoneItem) (mark : Nat) (s : State) :
    (zoneAtCrossing left here mark s).channelParts = s.channelParts := by
  simp [zoneAtCrossing]

@[simp] theorem channelParts_zoneAtOdometer (s : State) : (zoneAtOdometer s).channelParts = s.channelParts := by
  unfold zoneAtOdometer
  dsimp only
  split <;> simp

/-! ### The Path Tracker -/

@[simp] theorem channelParts_pathFault (c : StopCause) (s : State) : (pathFault c s).channelParts = s.channelParts := by
  simp [pathFault]

@[simp] theorem channelParts_crossBoundary (c : StopCause) (mark : Nat) (w : PathWindow) (n : NextStretch)
    (s : State) : (crossBoundary c mark w n s).channelParts = s.channelParts := by
  unfold crossBoundary
  dsimp only
  split <;> simp

@[simp] theorem channelParts_boundaryTest (s : State) : (boundaryTest s).channelParts = s.channelParts := by
  unfold boundaryTest
  split
  · rfl
  · split
    · rfl
    · split <;> simp

@[simp] theorem channelParts_missTest (s : State) : (missTest s).channelParts = s.channelParts := by
  unfold missTest
  split <;> simp

@[simp] theorem channelParts_odometerUpdate (s : State) : (odometerUpdate s).channelParts = s.channelParts := by
  simp [odometerUpdate]

@[simp] theorem channelParts_addTravel (s : State) : (addTravel s).channelParts = s.channelParts := by
  unfold addTravel
  dsimp only
  split <;> simp

@[simp] theorem channelParts_speedCapture (v : Nat) (s : State) : (speedCapture v s).channelParts = s.channelParts := by
  simp [speedCapture]

@[simp] theorem channelParts_countEdge (s : State) : (countEdge s).channelParts = s.channelParts := by
  unfold countEdge
  split
  · rfl
  · split <;> simp

@[simp] theorem channelParts_loadStretchEntry (s : State) : (loadStretchEntry s).channelParts = s.channelParts :=
  (channelParts_of_exceptShow (exceptShow_invalidateCache _)).trans
    ((channelParts_of_exceptBars (exceptBars_restraintsAtLoad _)).trans
      (channelParts_of_exceptShow (exceptShow_cuesAtLoad s)))

@[simp] theorem channelParts_armMark (d : Nat) (m : CueMark) (s : State) :
    (armMark d m s).channelParts = s.channelParts := by
  unfold armMark
  split <;> simp

@[simp] theorem channelParts_installTag (t : GoodTag) (confirmed : Bool) (s : State) :
    (installTag t confirmed s).channelParts = s.channelParts := by
  unfold installTag
  dsimp only
  split <;> simp

@[simp] theorem channelParts_wrongTag (s : State) : (wrongTag s).channelParts = s.channelParts := by
  simp [wrongTag]

@[simp] theorem channelParts_firstTag (t : GoodTag) (s : State) : (firstTag t s).channelParts = s.channelParts := by
  unfold firstTag
  split <;> simp

@[simp] theorem channelParts_laterTag (t : GoodTag) (s : State) : (laterTag t s).channelParts = s.channelParts := by
  unfold laterTag
  split
  · simp
  · split
    · simp
    · split
      · simp
      · split <;> simp

@[simp] theorem channelParts_takeTag (t : GoodTag) (s : State) : (takeTag t s).channelParts = s.channelParts := by
  unfold takeTag
  split
  · rfl
  · split <;> simp

@[simp] theorem channelParts_withReceiver (r : TagReceiver) (s : State) :
    (withReceiver r s).channelParts = s.channelParts := rfl

@[simp] theorem channelParts_countTagError (s : State) : (countTagError s).channelParts = s.channelParts := rfl

/-! ### The Steering Controller and the Analog Scanner -/

@[simp] theorem channelParts_guideWeak (s : State) : (guideWeak s).channelParts = s.channelParts := by
  unfold guideWeak
  split
  · rfl
  · split <;> rfl
  · rfl
  · rfl

@[simp] theorem channelParts_guideDelivered (l r : Nat) (s : State) :
    (guideDelivered l r s).channelParts = s.channelParts := by
  unfold guideDelivered
  split
  · exact channelParts_guideWeak s
  · rfl

@[simp] theorem channelParts_setList (l : ScanList) (v : ListState) (s : State) :
    (setList l v s).channelParts = s.channelParts := by
  cases l <;> rfl

@[simp] theorem channelParts_beginScan (l : ScanList) (s : State) : (beginScan l s).channelParts = s.channelParts := by
  simp [beginScan]

@[simp] theorem channelParts_trigger (l : ScanList) (s : State) : (trigger l s).channelParts = s.channelParts := by
  unfold trigger
  split
  · split
    · split <;> simp
    · rfl
    · rfl
  · rfl

@[simp] theorem channelParts_releaseConverter (l : ScanList) (s : State) :
    (releaseConverter l s).channelParts = s.channelParts := by
  unfold releaseConverter
  dsimp only
  split
  · simp
  · split <;> simp

@[simp] theorem channelParts_setLatch (i : Nat) (x : LatchInput) (s : State) :
    (setLatch i x s).channelParts = s.channelParts := rfl

/-! ### The Channel Interface -/

@[simp] theorem channelParts_startDeafTimer (s : State) : (startDeafTimer s).channelParts = s.channelParts := rfl

@[simp] theorem channelParts_offerPending (s : State) : (offerPending s).channelParts = s.channelParts := by
  unfold offerPending
  split
  · exact (channelParts_offerFrame _ _ _).trans rfl
  · rfl

/-- R30, R34: a sent POSE ends the TX_FAIL condition, and CHANNEL is set anew. -/
theorem channelLaw_poseSent (p : PoseBody) (s : State) : ChannelLaw (poseSent p s) :=
  (channelLaw_of_channelParts (channelParts_withZone _ _)).2 (channelLaw_setChannel _)

theorem channelLaw_attemptSucceeds (f : TxFrame) {s : State} (hs : ChannelLaw s) :
    ChannelLaw (attemptSucceeds f s) := by
  unfold attemptSucceeds
  refine (channelLaw_of_channelParts (channelParts_offerPending _)).2 ?_
  split
  · exact channelLaw_poseSent _ _
  · exact hs

/-- R32, R34: the fifth POSE given up in a row raises TX_FAIL, and CHANNEL is set anew. -/
theorem channelLaw_poseGivenUp {s : State} (hs : ChannelLaw s) : ChannelLaw (poseGivenUp s) := by
  unfold poseGivenUp
  dsimp only
  split
  · exact (channelLaw_of_channelParts (channelParts_raiseFault _ _)).2 (channelLaw_setChannel _)
  · exact hs

theorem channelLaw_collide (f : TxFrame) {s : State} (hs : ChannelLaw s) : ChannelLaw (collide f s) := by
  unfold collide giveUp
  split
  · exact hs
  · refine (channelLaw_of_channelParts (channelParts_offerPending _)).2 ?_
    split
    · exact channelLaw_poseGivenUp (s := countTxGiveUp (endAttempt s)) hs
    · exact hs

/-- R24, R34: an accepted frame ends DEAF, and CHANNEL is set anew. -/
theorem channelLaw_acceptFrame (f : RawFrame) (b : RxBody) {s : State} (hs : ChannelLaw s) :
    ChannelLaw (acceptFrame f b s) := by
  have recorded (u : State) (l : Vector (Option Nat) 64) (hu : ChannelLaw u) :
      ChannelLaw (withChannel { u.channel with lastSeq := l } u) := hu
  refine recorded _ _ ?_
  split
  · dsimp only
    split
    · exact channelLaw_setChannel _
    · exact (channelLaw_of_channelParts (channelParts_claimTest _)).2 (channelLaw_setChannel _)
  · exact hs

/-! ### Resets and start-up -/

theorem channelLaw_poweredOn (s : State) : ChannelLaw (poweredOn s) := rfl

@[simp] theorem channelParts_liftSafety (s : State) : (liftSafety s).channelParts = s.channelParts := by
  unfold liftSafety
  split <;> rfl

@[simp] theorem channelParts_enterRun (s : State) : (enterRun s).channelParts = s.channelParts := by
  have told (u : State) : (if u.cues.isSuspended then takeFaultLevels u else u).channelParts = u.channelParts := by
    split <;> rfl
  unfold enterRun
  dsimp only
  rw [told]
  simp [startRestraints, startSteering, startScanner, startAnnounce]

/-- R35: a warm reset keeps the two flags and works CHANNEL out from them. -/
theorem channelLaw_warmGovernor (s : State) : ChannelLaw (warmGovernor s) := by
  simp [ChannelLaw, warmGovernor, warmLimits]

theorem channelParts_tellAnew (s : State) : (tellAnew s).channelParts = s.channelParts := by
  unfold tellAnew
  split
  · exact channelParts_of_exceptShow (exceptShow_tellSafetyStop true s)
  · rfl

theorem channelLaw_warmReset (s : State) : ChannelLaw (warmReset s) := by
  unfold warmReset
  refine (channelLaw_of_channelParts ((channelParts_tellAnew _).trans (channelParts_of_exceptSound
    ((exceptSound_each exceptSound_reofferPin _ _).trans ((exceptSound_warmSound _).trans
      (exceptSound_withContent _ _)))))).2 (channelLaw_warmGovernor _)

/-! ### Frames handled by Start-up and Status -/

theorem channelParts_clearFaults (mask : Nat) (s : State) : (clearFaults mask s).channelParts = s.channelParts := by
  unfold clearFaults
  dsimp only
  split <;> simp

@[simp] theorem channelParts_endChainStop (s : State) : (endChainStop s).channelParts = s.channelParts := by
  unfold endChainStop removeFault
  split <;> simp

@[simp] theorem channelParts_liftRide (s : State) : (liftRide s).channelParts = s.channelParts := by
  unfold liftRide
  split <;> simp

@[simp] theorem channelParts_takeRecover (addressed : Bool) (s : State) :
    (takeRecover addressed s).channelParts = s.channelParts := by
  unfold takeRecover
  split <;> simp

theorem channelParts_takeResume (addressed recover : Bool) (s : State) :
    (takeResume addressed recover s).channelParts = s.channelParts := by
  unfold takeResume
  dsimp only
  split <;> simp

theorem channelParts_takeCue (c : CueBody) (s : State) : (takeCue c s).channelParts = s.channelParts := by
  unfold takeCue
  split <;> simp

theorem channelLaw_takeRestart {s : State} (hs : ChannelLaw s) : ChannelLaw (takeRestart s) := by
  unfold takeRestart
  split
  · exact channelLaw_warmReset s
  · exact hs

end Sys2Proof.Machine
end

section
/-! SUPPORT. O10, command by command, and the step. -/

namespace Sys2Proof.Machine

/-- A command after which the CHANNEL entry is right if it was right before. -/
def KeepsChannel (f : State → Out) : Prop :=
  ∀ s t : State, ChannelLaw s → f s = .next t → ChannelLaw t

/-- The time that passes and the POSE at once are no part of the law; what counts is the effect. -/
theorem keepsChannel_event {dt : Nat} {f : State → State} (hf : ∀ s, ChannelLaw s → ChannelLaw (f s)) :
    KeepsChannel (event dt f) := by
  intro s t hs h
  cases h
  exact (channelLaw_of_channelParts (channelParts_of_exceptShow (exceptShow_settle _ _))).2
    (hf _ ((channelLaw_of_channelParts (channelParts_advance dt s)).2 hs))

/-- The commands of the other blocks: their effect keeps the parts that the law reads. -/
theorem keepsChannel_event_of_parts {dt : Nat} {f : State → State} (hf : ∀ s, (f s).channelParts = s.channelParts) :
    KeepsChannel (event dt f) :=
  keepsChannel_event fun s => (channelLaw_of_channelParts (hf s)).2

/-! ### The Path Tracker -/

theorem keepsChannel_encEdge (dt : Nat) : KeepsChannel (execEncEdge dt) :=
  keepsChannel_event_of_parts fun s => by split <;> simp [restartOverflow]

theorem keepsChannel_captureOverflow (dt : Nat) : KeepsChannel (execCaptureOverflow dt) :=
  keepsChannel_event_of_parts fun s => by split <;> simp

theorem keepsChannel_tagRecord (dt span : Nat) (bytes : Vector Byte 20) :
    KeepsChannel (execTagRecord dt span bytes) :=
  keepsChannel_event_of_parts fun s => by
    split
    · dsimp only
      split <;> simp
    · rfl

theorem keepsChannel_tagIdleTimeout (dt span : Nat) : KeepsChannel (execTagIdleTimeout dt span) :=
  keepsChannel_event_of_parts fun s => by split <;> simp

theorem keepsChannel_tagCharacterError (dt span : Nat) : KeepsChannel (execTagCharacterError dt span) :=
  keepsChannel_event_of_parts fun s => by split <;> simp

theorem keepsChannel_tagExcessCharacters (dt : Nat) : KeepsChannel (execTagExcessCharacters dt) :=
  keepsChannel_event_of_parts fun s => by
    dsimp only
    split
    · split <;> simp
    · rfl

/-! ### The Zone Controller -/

theorem keepsChannel_announceTimerExpiry (dt : Nat) : KeepsChannel (execAnnounceTimerExpiry dt) :=
  keepsChannel_event_of_parts fun s => by
    split
    · split <;> simp [offerPose]
    · rfl

theorem keepsChannel_neighbourAgeing (dt peer : Nat) : KeepsChannel (execNeighbourAgeing dt peer) :=
  keepsChannel_event_of_parts fun s => by
    split
    · dsimp only
      split
      · rfl
      · split <;> simp
    · rfl

theorem keepsChannel_claimWindowExpiry (dt : Nat) : KeepsChannel (execClaimWindowExpiry dt) :=
  keepsChannel_event_of_parts fun s => by split <;> simp

/-! ### The Motion Governor -/

theorem keepsChannel_drivePeriod (dt : Nat) : KeepsChannel (execDrivePeriod dt) :=
  keepsChannel_event_of_parts fun s => by split <;> simp

theorem keepsChannel_standstillTimerExpiry (dt : Nat) : KeepsChannel (execStandstillTimerExpiry dt) :=
  keepsChannel_event_of_parts fun s => by
    split
    · split <;> rfl
    · rfl

theorem keepsChannel_overspeedTimerExpiry (dt : Nat) : KeepsChannel (execOverspeedTimerExpiry dt) :=
  keepsChannel_event_of_parts fun s => by
    split
    · exact (channelParts_raiseStop _ _).trans (channelParts_withGovernor rfl)
    · rfl

@[simp] theorem channelParts_setChain (high : Bool) (s : State) : (setChain high s).channelParts = s.channelParts := rfl

theorem keepsChannel_chainOpen (dt : Nat) : KeepsChannel (execChainOpen dt) :=
  keepsChannel_event_of_parts fun s => by
    split
    · split <;> simp
    · rfl

theorem keepsChannel_chainClose (dt : Nat) : KeepsChannel (execChainClose dt) :=
  keepsChannel_event_of_parts (channelParts_setChain true)

/-! ### The Restraint Monitor -/

theorem keepsChannel_suspectTimerExpiry (dt bar : Nat) : KeepsChannel (execSuspectTimerExpiry dt bar) :=
  keepsChannel_event_of_parts fun s => by
    dsimp only
    split
    · exact channelParts_of_exceptBars (by simp)
    · rfl

theorem keepsChannel_spielRepeatExpiry (dt : Nat) : KeepsChannel (execSpielRepeatExpiry dt) :=
  keepsChannel_event_of_parts fun s => by
    split
    · split
      · exact channelParts_of_exceptBars (by simp)
      · rfl
    · rfl

/-! ### The Steering Controller and the Analog Scanner -/

theorem keepsChannel_guideLossExpiry (dt : Nat) : KeepsChannel (execGuideLossExpiry dt) :=
  keepsChannel_event_of_parts fun s => by split <;> simp

theorem keepsChannel_restraintScanTimerExpiry (dt : Nat) : KeepsChannel (execRestraintScanTimerExpiry dt) :=
  keepsChannel_event_of_parts fun s => by
    split
    · split <;> simp
    · rfl

theorem keepsChannel_scanEnd (dt : Nat) (channels : Vector Conversion 10) : KeepsChannel (execScanEnd dt channels) :=
  keepsChannel_event_of_parts fun s => by
    split
    · split
      · simp [endGuideScan]
      · simp [endRestraintScan]
    · rfl

theorem keepsChannel_latchEdge (dt latch : Nat) (high : Bool) : KeepsChannel (execLatchEdge dt latch high) :=
  keepsChannel_event_of_parts fun s => by
    unfold latchEdge
    dsimp only
    split <;> simp

theorem keepsChannel_latchSettleExpiry (dt latch : Nat) : KeepsChannel (execLatchSettleExpiry dt latch) :=
  keepsChannel_event_of_parts fun s => by
    split
    · unfold latchSettles
      dsimp only
      split <;> simp
    · rfl

theorem keepsChannel_servoFrameStart (dt : Nat) : KeepsChannel (execServoFrameStart dt) :=
  keepsChannel_event_of_parts fun s => by
    split
    · split <;> simp [frameStarts]
    · rfl

/-! ### The show -/

theorem keepsChannel_readComplete (dt : Nat) (data : BlockData) : KeepsChannel (execReadComplete dt data) :=
  keepsChannel_event_of_parts fun s => by
    split
    · split
      · exact channelParts_of_exceptShow (exceptShow_finishRead _ _ _ s)
      · rfl
    · rfl

theorem keepsChannel_sceneTimeReached (dt scene : Nat) : KeepsChannel (execSceneTimeReached dt scene) :=
  keepsChannel_event_of_parts fun s => by
    dsimp only
    split <;> simp

theorem keepsChannel_sceneClockExpiry (dt scene : Nat) : KeepsChannel (execSceneClockExpiry dt scene) :=
  keepsChannel_event_of_parts fun s => by
    split
    · rfl
    · split
      · split
        · exact channelParts_of_exceptShow (exceptShow_expireClock _ _ s)
        · rfl
      · rfl

theorem keepsChannel_showHoldExpiry (dt : Nat) : KeepsChannel (execShowHoldExpiry dt) :=
  keepsChannel_event_of_parts fun s => by
    split
    · split <;> rfl
    · rfl

theorem keepsChannel_effectTimerExpiry (dt line : Nat) : KeepsChannel (execEffectTimerExpiry dt line) :=
  keepsChannel_event_of_parts fun s => by
    split
    · rfl
    · split
      · split <;> rfl
      · split <;> rfl
      · rfl

theorem keepsChannel_outputPeriod (dt : Nat) : KeepsChannel (execOutputPeriod dt) :=
  keepsChannel_event_of_parts fun s => by
    split
    · dsimp only
      split
      · exact channelParts_of_exceptSound
          ((exceptSound_each exceptSound_advanceVoice _ _).trans (exceptSound_withSound _ s))
      · rfl
    · rfl

theorem keepsChannel_fadeEnd (dt voice : Nat) : KeepsChannel (execFadeEnd dt voice) :=
  keepsChannel_event_of_parts fun s => by
    dsimp only
    split
    · split
      · exact channelParts_of_exceptSound (exceptSound_toIdle voice s)
      · rfl
    · rfl

theorem keepsChannel_lockedVoiceTick (dt voice : Nat) : KeepsChannel (execLockedVoiceTick dt voice) :=
  keepsChannel_event_of_parts fun s => by
    dsimp only
    split
    · exact channelParts_of_exceptSound (exceptSound_reworkStarts _ s)
    · rfl

theorem keepsChannel_idleTimerExpiry (dt : Nat) : KeepsChannel (execIdleTimerExpiry dt) :=
  keepsChannel_event_of_parts fun s => by
    split
    · split <;> rfl
    · rfl

theorem keepsChannel_wakeTimerExpiry (dt : Nat) : KeepsChannel (execWakeTimerExpiry dt) :=
  keepsChannel_event_of_parts fun s => by
    split
    · split
      · exact channelParts_of_exceptSound (by simp)
      · rfl
    · rfl

/-! ### The Channel Interface -/

theorem keepsChannel_attemptStart (dt : Nat) : KeepsChannel (execAttemptStart dt) :=
  keepsChannel_event_of_parts fun s => by split <;> rfl

theorem keepsChannel_attemptSuccess (dt : Nat) : KeepsChannel (execAttemptSuccess dt) :=
  keepsChannel_event fun s hs => by
    split
    · split
      · exact channelLaw_attemptSucceeds _ hs
      · exact hs
    · exact hs

theorem keepsChannel_collision (dt : Nat) : KeepsChannel (execCollision dt) :=
  keepsChannel_event fun s hs => by
    split
    · exact channelLaw_collide _ hs
    · exact hs

theorem keepsChannel_retryWaitExpiry (dt : Nat) : KeepsChannel (execRetryWaitExpiry dt) :=
  keepsChannel_event_of_parts fun s => channelParts_mapQueue _ s

/-- R33, R34: DEAF begins, and CHANNEL is set anew. -/
theorem keepsChannel_deafTimerExpiry (dt : Nat) : KeepsChannel (execDeafTimerExpiry dt) :=
  keepsChannel_event fun s hs => by
    split
    · exact channelLaw_setChannel _
    · exact hs

theorem keepsChannel_cdRise (dt : Nat) : KeepsChannel (execCdRise dt) :=
  keepsChannel_event_of_parts fun s => by split <;> rfl

theorem keepsChannel_cdFall (dt : Nat) : KeepsChannel (execCdFall dt) :=
  keepsChannel_event_of_parts fun s => by split <;> rfl

theorem keepsChannel_frameDiscarded (dt : Nat) (bytes : List Byte) : KeepsChannel (execFrameDiscarded dt bytes) :=
  keepsChannel_event_of_parts fun s => by split <;> rfl

theorem keepsChannel_duplicateId (dt : Nat) (bytes : List Byte) : KeepsChannel (execDuplicateId dt bytes) :=
  keepsChannel_event_of_parts fun s => by
    split
    · exact (channelParts_raiseStop _ _).trans rfl
    · rfl

/-! ### Resets and start-up -/

theorem keepsChannel_powerOnReset (dt : Nat) : KeepsChannel (execPowerOnReset dt) :=
  keepsChannel_event fun s _ => by
    unfold powerOn
    split
    · exact channelLaw_poweredOn s
    · exact (channelLaw_of_channelParts (channelParts_raiseStop _ _)).2 (channelLaw_poweredOn s)

theorem keepsChannel_configBlockLoaded (dt : Nat) (bytes : List Byte) : KeepsChannel (execConfigBlockLoaded dt bytes) :=
  keepsChannel_event_of_parts fun s => by
    split
    · split
      · simp [takeConfig]
      · simp [enterInhibit]
    · rfl

theorem keepsChannel_contentCheckDone (dt : Nat) (header clips cues : List Byte) :
    KeepsChannel (execContentCheckDone dt header clips cues) :=
  keepsChannel_event_of_parts fun s => by
    split
    · dsimp only
      unfold takeCheckResult
      dsimp only
      split <;> simp
    · rfl

theorem keepsChannel_restartLineRequest (dt : Nat) : KeepsChannel (execRestartLineRequest dt) :=
  keepsChannel_event fun s hs => by
    split
    · dsimp only
      split
      · exact channelLaw_warmReset _
      · exact hs
    · exact hs

theorem keepsChannel_restartLineReady (dt : Nat) : KeepsChannel (execRestartLineReady dt) :=
  keepsChannel_event_of_parts fun s => by split <;> rfl

theorem keepsChannel_restartLineEdge (dt : Nat) (high : Bool) : KeepsChannel (execRestartLineEdge dt high) :=
  keepsChannel_event_of_parts fun s => by
    unfold restartEdge
    split <;> rfl

/-! ### Frames received -/

/-- A frame that is accepted may end DEAF; what its owner then does with it must keep the law. -/
theorem keepsChannel_onAccepted {dt : Nat} {bytes : List Byte} {own : RawFrame → RxBody → State → Option State}
    (h : ∀ f b s t, own f b s = some t → ChannelLaw s → ChannelLaw t) :
    KeepsChannel (event dt (onAccepted bytes own)) :=
  keepsChannel_event fun s hs => by
    unfold onAccepted
    split
    · next f b _ =>
      cases taken : own f b (acceptFrame f b s) with
      | none => exact hs
      | some t => exact h f b _ t taken (channelLaw_acceptFrame f b hs)
    · exact hs

theorem keepsChannel_onAccepted_of_parts {dt : Nat} {bytes : List Byte}
    {own : RawFrame → RxBody → State → Option State}
    (h : ∀ f b s t, own f b s = some t → t.channelParts = s.channelParts) :
    KeepsChannel (event dt (onAccepted bytes own)) :=
  keepsChannel_onAccepted fun f b s t taken => (channelLaw_of_channelParts (h f b s t taken)).2

theorem keepsChannel_poseReceived (dt : Nat) (bytes : List Byte) : KeepsChannel (execPoseReceived dt bytes) :=
  keepsChannel_onAccepted_of_parts fun f b s t h => by
    split at h <;> cases h
    exact channelParts_takePose _ _ s

theorem keepsChannel_cueReceived (dt : Nat) (bytes : List Byte) : KeepsChannel (execCueReceived dt bytes) :=
  keepsChannel_onAccepted_of_parts fun f b s t h => by
    split at h <;> cases h
    exact channelParts_takeCue _ s

theorem keepsChannel_syncReceived (dt : Nat) (bytes : List Byte) : KeepsChannel (execSyncReceived dt bytes) :=
  keepsChannel_onAccepted_of_parts fun f b s t h => by
    split at h <;> [obtain rfl := Option.some.inj h; cases h]
    exact channelParts_of_exceptShow (exceptShow_takeSync _ _ s)

theorem keepsChannel_checkReceived (dt : Nat) (bytes : List Byte) : KeepsChannel (execCheckReceived dt bytes) :=
  keepsChannel_onAccepted_of_parts fun f b s t h => by
    split at h <;> cases h
    simp [takeCheck]

theorem keepsChannel_verdictReceived (dt : Nat) (bytes : List Byte) : KeepsChannel (execVerdictReceived dt bytes) :=
  keepsChannel_onAccepted_of_parts fun f b s t h => by
    split at h <;> cases h
    rfl

theorem keepsChannel_dispatchReceived (dt : Nat) (bytes : List Byte) : KeepsChannel (execDispatchReceived dt bytes) :=
  keepsChannel_onAccepted_of_parts fun f b s t h => by
    split at h <;> cases h
    exact channelParts_takeDispatch s

theorem keepsChannel_clearFaults (dt : Nat) (bytes : List Byte) : KeepsChannel (execClearFaults dt bytes) :=
  keepsChannel_onAccepted_of_parts fun f b s t h => by
    split at h <;> cases h
    exact channelParts_clearFaults _ s

theorem keepsChannel_clearPeer (dt : Nat) (bytes : List Byte) : KeepsChannel (execClearPeer dt bytes) :=
  keepsChannel_onAccepted_of_parts fun f b s t h => by
    split at h <;> cases h
    exact channelParts_clearNeighbour _ s

theorem keepsChannel_holdall (dt : Nat) (bytes : List Byte) : KeepsChannel (execHoldall dt bytes) :=
  keepsChannel_onAccepted_of_parts fun f b s t h => by
    split at h <;> cases h
    exact channelParts_setLimit (k := .ride) nofun 0 s

theorem keepsChannel_resume (dt : Nat) (bytes : List Byte) : KeepsChannel (execResume dt bytes) :=
  keepsChannel_onAccepted_of_parts fun f b s t h => by
    split at h <;> cases h
    exact channelParts_takeResume _ _ s

theorem keepsChannel_query (dt : Nat) (bytes : List Byte) : KeepsChannel (execQuery dt bytes) :=
  keepsChannel_onAccepted_of_parts fun f b s t h => by
    split at h <;> cases h
    exact channelParts_offerFrame _ _ s

theorem keepsChannel_statusReceived (dt : Nat) (bytes : List Byte) : KeepsChannel (execStatusReceived dt bytes) :=
  keepsChannel_onAccepted_of_parts fun f b s t h => by
    split at h <;> cases h
    rfl

theorem keepsChannel_restart (dt : Nat) (bytes : List Byte) : KeepsChannel (execRestart dt bytes) :=
  keepsChannel_onAccepted fun f b s t h hs => by
    split at h <;> cases h
    exact channelLaw_takeRestart hs

/-! ### Every command -/

theorem keepsChannel_exec (i : Instr) : KeepsChannel (exec i) := by
  cases i with
  | powerOnReset dt => exact keepsChannel_powerOnReset dt
  | configBlockLoaded dt bytes => exact keepsChannel_configBlockLoaded dt bytes
  | contentCheckDone dt header clips cues => exact keepsChannel_contentCheckDone dt header clips cues
  | encEdge dt => exact keepsChannel_encEdge dt
  | captureOverflow dt => exact keepsChannel_captureOverflow dt
  | tagRecord dt span bytes => exact keepsChannel_tagRecord dt span bytes
  | tagIdleTimeout dt span => exact keepsChannel_tagIdleTimeout dt span
  | frameDiscarded dt bytes => exact keepsChannel_frameDiscarded dt bytes
  | duplicateId dt bytes => exact keepsChannel_duplicateId dt bytes
  | poseReceived dt bytes => exact keepsChannel_poseReceived dt bytes
  | cueReceived dt bytes => exact keepsChannel_cueReceived dt bytes
  | syncReceived dt bytes => exact keepsChannel_syncReceived dt bytes
  | checkReceived dt bytes => exact keepsChannel_checkReceived dt bytes
  | verdictReceived dt bytes => exact keepsChannel_verdictReceived dt bytes
  | dispatchReceived dt bytes => exact keepsChannel_dispatchReceived dt bytes
  | clearFaults dt bytes => exact keepsChannel_clearFaults dt bytes
  | clearPeer dt bytes => exact keepsChannel_clearPeer dt bytes
  | holdall dt bytes => exact keepsChannel_holdall dt bytes
  | resume dt bytes => exact keepsChannel_resume dt bytes
  | query dt bytes => exact keepsChannel_query dt bytes
  | statusReceived dt bytes => exact keepsChannel_statusReceived dt bytes
  | restart dt bytes => exact keepsChannel_restart dt bytes
  | attemptStart dt => exact keepsChannel_attemptStart dt
  | attemptSuccess dt => exact keepsChannel_attemptSuccess dt
  | collision dt => exact keepsChannel_collision dt
  | retryWaitExpiry dt => exact keepsChannel_retryWaitExpiry dt
  | deafTimerExpiry dt => exact keepsChannel_deafTimerExpiry dt
  | announceTimerExpiry dt => exact keepsChannel_announceTimerExpiry dt
  | neighbourAgeing dt peer => exact keepsChannel_neighbourAgeing dt peer
  | claimWindowExpiry dt => exact keepsChannel_claimWindowExpiry dt
  | drivePeriod dt => exact keepsChannel_drivePeriod dt
  | standstillTimerExpiry dt => exact keepsChannel_standstillTimerExpiry dt
  | overspeedTimerExpiry dt => exact keepsChannel_overspeedTimerExpiry dt
  | chainOpen dt => exact keepsChannel_chainOpen dt
  | chainClose dt => exact keepsChannel_chainClose dt
  | restartLineRequest dt => exact keepsChannel_restartLineRequest dt
  | restartLineReady dt => exact keepsChannel_restartLineReady dt
  | restraintScanTimerExpiry dt => exact keepsChannel_restraintScanTimerExpiry dt
  | scanEnd dt channels => exact keepsChannel_scanEnd dt channels
  | latchEdge dt latch high => exact keepsChannel_latchEdge dt latch high
  | latchSettleExpiry dt latch => exact keepsChannel_latchSettleExpiry dt latch
  | servoFrameStart dt => exact keepsChannel_servoFrameStart dt
  | guideLossExpiry dt => exact keepsChannel_guideLossExpiry dt
  | suspectTimerExpiry dt bar => exact keepsChannel_suspectTimerExpiry dt bar
  | spielRepeatExpiry dt => exact keepsChannel_spielRepeatExpiry dt
  | readComplete dt data => exact keepsChannel_readComplete dt data
  | sceneTimeReached dt scene => exact keepsChannel_sceneTimeReached dt scene
  | sceneClockExpiry dt scene => exact keepsChannel_sceneClockExpiry dt scene
  | showHoldExpiry dt => exact keepsChannel_showHoldExpiry dt
  | effectTimerExpiry dt line => exact keepsChannel_effectTimerExpiry dt line
  | outputPeriod dt => exact keepsChannel_outputPeriod dt
  | fadeEnd dt voice => exact keepsChannel_fadeEnd dt voice
  | lockedVoiceTick dt voice => exact keepsChannel_lockedVoiceTick dt voice
  | idleTimerExpiry dt => exact keepsChannel_idleTimerExpiry dt
  | wakeTimerExpiry dt => exact keepsChannel_wakeTimerExpiry dt
  | tagCharacterError dt span => exact keepsChannel_tagCharacterError dt span
  | tagExcessCharacters dt => exact keepsChannel_tagExcessCharacters dt
  | cdRise dt => exact keepsChannel_cdRise dt
  | cdFall dt => exact keepsChannel_cdFall dt
  | restartLineEdge dt high => exact keepsChannel_restartLineEdge dt high

/-- Settles O10: each command keeps the law (`keepsChannel_exec`), and the law does not read the queue of commands. -/
theorem stepKeepsChannelEntry : Obligations.StepKeepsChannelEntry := by
  unfold Obligations.StepKeepsChannelEntry
  intro s t hs h
  unfold step at h
  split at h
  · cases h
    exact hs
  · next c rest _ =>
    have taken : ChannelLaw { s with pending := rest } := hs
    exact keepsChannel_exec c _ t taken h

end Sys2Proof.Machine
end

section
/-! SUPPORT. O20, the transmit queue (R28). A full queue gives up the youngest displaceable frame of a class, which is the
last element that satisfies a test (`removeLast`); `displace` is told by where that frame stands in the queue, and
`placeFrame` has one equation for each outcome. -/

namespace Sys2Proof.Machine

/-! ### The last element that satisfies a test -/

section RemoveLast

variable {α : Type} {p : α → Bool}

theorem removeLast_eq_none {l : List α} (h : ∀ x ∈ l, p x = false) : removeLast p l = none := by
  induction l with
  | nil => rfl
  | cons x xs ih =>
    obtain ⟨head, tail⟩ := List.forall_mem_cons.1 h
    simp [removeLast, head, ih tail]

theorem removeLast_append_cons {g : α} {ys : List α} (hg : p g = true) (hys : ∀ x ∈ ys, p x = false) (xs : List α) :
    removeLast p (xs ++ g :: ys) = some (xs ++ ys) := by
  induction xs with
  | nil => simp [removeLast, removeLast_eq_none hys, hg]
  | cons x xs ih => simp [removeLast, ih]

end RemoveLast

/-! ### Displacing a frame -/

/-- No frame of class `k` in `r` can be displaced: each is under transmission. -/
def NoneDisplaceable (k : Nat) (r : List TxFrame) : Prop :=
  ∀ g ∈ r, g.status ≠ .onAir → g.body.cls ≠ k

/-- The frame that an offer places in the queue: new, with no attempt made. -/
def newFrame (dest : Nat) (body : TxBody) : TxFrame :=
  ⟨dest, body, 0, none, .queued⟩

theorem displaceable_iff (f : TxFrame) : f.displaceable = true ↔ f.status ≠ .onAir := by
  unfold TxFrame.displaceable
  cases f.status <;> simp

theorem NoneDisplaceable.displaceable_and_cls {k : Nat} {r : List TxFrame} (h : NoneDisplaceable k r) :
    ∀ g ∈ r, (g.displaceable && g.body.cls == k) = false := by
  intro g hg
  rw [Bool.and_eq_false_imp, displaceable_iff]
  exact fun free => beq_false_of_ne (h g hg free)

theorem displace_eq_none {k : Nat} {q : List TxFrame} (h : NoneDisplaceable k q) : displace k q = none :=
  removeLast_eq_none h.displaceable_and_cls

/-- The youngest displaceable frame of class `k` leaves its place; the rest keep their order. -/
theorem displace_append_cons {k : Nat} {g : TxFrame} {ys : List TxFrame} (free : g.status ≠ .onAir)
    (cls : g.body.cls = k) (h : NoneDisplaceable k ys) (xs : List TxFrame) :
    displace k (xs ++ g :: ys) = some (xs ++ ys) :=
  removeLast_append_cons (by simp [(displaceable_iff g).2 free, cls]) h.displaceable_and_cls xs

/-! ### Placing a frame -/

section Placing

variable {dest : Nat} {body : TxBody} {s : State} {r : List TxFrame}

/-- Without a POSE to replace an offered frame is placed by its class. -/
theorem offerFrame_eq_placeFrame (run : s.startUp.run = .run)
    (noPose : body.isPose = true → ∀ g ∈ s.channel.queue, g.body.isPose = false) :
    offerFrame dest body s = placeFrame dest body s := by
  unfold offerFrame
  rw [if_pos run]
  cases body with
  | verdict _ _ | status _ | cue _ => rfl
  | pose p =>
    have absent : (s.channel.queue.find? fun f => f.body.isPose) = none :=
      List.find?_eq_none.2 fun g hg => by simp [noPose rfl g hg]
    simp only [absent]

theorem placeFrame_of_room (room : s.channel.queue.length < 6) :
    placeFrame dest body s = mapQueue (fun q => q ++ [newFrame dest body]) s :=
  if_pos room

/-- R28: what a full queue gives up for an offered frame, class-2 frames first. -/
def displacedFor (cls : Nat) (q : List TxFrame) : Option (List TxFrame) :=
  match cls with
  | 0 => (displace 2 q).or (displace 1 q)
  | 2 => none
  | _ => displace 2 q

theorem placeFrame_of_displaced (full : 6 ≤ s.channel.queue.length)
    (h : displacedFor body.cls s.channel.queue = some r) :
    placeFrame dest body s = countTxDropped (mapQueue (fun _ => r ++ [newFrame dest body]) s) := by
  unfold placeFrame
  rw [if_neg (Nat.not_lt.2 full)]
  cases body with
  | pose p =>
    simp only [displacedFor, TxBody.cls] at h ⊢
    cases second : displace 2 s.channel.queue with
    | none =>
      rw [second, Option.none_or] at h
      rw [h]
      rfl
    | some q =>
      rw [second, Option.some_or] at h
      cases h
      rfl
  | verdict _ _ | status _ =>
    simp only [displacedFor, TxBody.cls] at h ⊢
    rw [h]
    rfl
  | cue _ => cases h

theorem placeFrame_of_none_displaced (full : 6 ≤ s.channel.queue.length)
    (h : displacedFor body.cls s.channel.queue = none) : placeFrame dest body s = countTxDropped s := by
  unfold placeFrame
  rw [if_neg (Nat.not_lt.2 full)]
  cases body with
  | pose p =>
    obtain ⟨second, first⟩ := Option.or_eq_none_iff.1 h
    simp only [TxBody.cls, second, first]
  | verdict _ _ | status _ =>
    simp only [displacedFor, TxBody.cls] at h ⊢
    rw [h]
  | cue _ => rfl

end Placing

/-! ### What a full queue gives up -/

section GivenUp

variable {cls : Nat} {g : TxFrame} {xs ys : List TxFrame}

theorem displacedFor_youngest_second (h : cls ≤ 1) (free : g.status ≠ .onAir) (second : g.body.cls = 2)
    (rest : NoneDisplaceable 2 ys) : displacedFor cls (xs ++ g :: ys) = some (xs ++ ys) := by
  have youngest := displace_append_cons free second rest xs
  interval_cases cls
  · simp [displacedFor, youngest]
  · exact youngest

theorem displacedFor_youngest_first (none2 : NoneDisplaceable 2 (xs ++ g :: ys)) (free : g.status ≠ .onAir)
    (first : g.body.cls = 1) (rest : NoneDisplaceable 1 ys) :
    displacedFor 0 (xs ++ g :: ys) = some (xs ++ ys) := by
  simp [displacedFor, displace_eq_none none2, displace_append_cons free first rest xs]

end GivenUp

/-- Settles O20: an offer places its frame by class (`offerFrame_eq_placeFrame`), and what a full queue gives up for it
says which of the two outcomes it has. -/
theorem offeredFramesArePlacedByClass : Obligations.OfferedFramesArePlacedByClass := by
  unfold Obligations.OfferedFramesArePlacedByClass
  intro s dest body run noPose
  dsimp only
  rw [offerFrame_eq_placeFrame run noPose]
  refine ⟨placeFrame_of_room, fun full => ⟨?second, ?first, ?dropped, ?cue⟩⟩
  case second =>
    intro h xs g ys queue free cls rest
    exact placeFrame_of_displaced full (by rw [queue]; exact displacedFor_youngest_second h free cls rest)
  case first =>
    intro h none2 xs g ys queue free cls rest
    rw [queue] at none2
    exact placeFrame_of_displaced full (by rw [h, queue]; exact displacedFor_youngest_first none2 free cls rest)
  case dropped =>
    intro h none2
    exact placeFrame_of_none_displaced full (by rw [h]; exact displace_eq_none none2)
  case cue =>
    intro h
    exact placeFrame_of_none_displaced full (by rw [h]; rfl)

end Sys2Proof.Machine
end

section
/-! SUPPORT. O16, zone items (R36). The zones of an item are a range of naturals that is never empty, so what the model
decides by comparing the ends of two ranges is what R36 says of their zones. -/

namespace Sys2Proof.Machine

/-! ### Alignment -/

theorem align_span (it : ZoneItem) : it.align.span = it.span := rfl

theorem align_base (it : ZoneItem) : it.align.base = it.base / 2 ^ it.span * 2 ^ it.span := rfl

theorem align_base_mod (it : ZoneItem) : it.align.base % 2 ^ it.span = 0 := by
  rw [align_base]
  exact Nat.mul_mod_left _ _

theorem align_base_le (it : ZoneItem) : it.align.base ≤ it.base :=
  Nat.div_mul_le_self _ _

theorem base_lt_align_base_add (it : ZoneItem) : it.base < it.align.base + 2 ^ it.span :=
  Nat.lt_div_mul_add (Nat.two_pow_pos _)

/-- Of an item whose base is already a multiple of its length, alignment makes the item itself. -/
theorem align_eq_self {it : ZoneItem} (h : it.base % 2 ^ it.span = 0) : it.align = it := by
  have base : it.align.base = it.base := Nat.div_mul_cancel (Nat.dvd_of_mod_eq_zero h)
  calc it.align = ⟨it.align.base, it.align.span⟩ := rfl
    _ = it := by rw [base, align_span]

theorem align_align (it : ZoneItem) : it.align.align = it.align :=
  align_eq_self (align_base_mod it)

theorem isAligned_align {it : ZoneItem} (base : it.base < 1024) (span : it.span < 4) : it.align.isAligned :=
  ⟨(align_base_le it).trans_lt base, span, align_align it⟩

theorem itemOfWord_isAligned (w : Nat) : (itemOfWord w).isAligned :=
  isAligned_align (Nat.mod_lt w (by decide)) (Nat.mod_lt (w / 1024) (by decide))

/-! ### The zones of an item -/

theorem conflicts_iff_bounds {x y : ZoneItem} :
    x.conflicts y = true ↔ x.base < y.base + 2 ^ y.span ∧ y.base < x.base + 2 ^ x.span :=
  decide_eq_true_iff

theorem covers_iff_bounds {x y : ZoneItem} :
    x.covers y = true ↔ x.base ≤ y.base ∧ y.base + 2 ^ y.span ≤ x.base + 2 ^ x.span :=
  decide_eq_true_iff

theorem base_lt_end (it : ZoneItem) : it.base < it.base + 2 ^ it.span :=
  Nat.lt_add_of_pos_right (Nat.two_pow_pos _)

/-- The zone that two conflicting items share is the greater of their bases. -/
theorem conflicts_iff_shared_zone (x y : ZoneItem) : x.conflicts y = true ↔ ∃ z, x.has z ∧ y.has z := by
  rw [conflicts_iff_bounds]
  constructor
  · rintro ⟨hxy, hyx⟩
    exact ⟨max x.base y.base, ⟨le_max_left _ _, max_lt (base_lt_end x) hyx⟩,
      ⟨le_max_right _ _, max_lt hxy (base_lt_end y)⟩⟩
  · rintro ⟨z, ⟨hx, hx'⟩, ⟨hy, hy'⟩⟩
    exact ⟨hx.trans_lt hy', hy.trans_lt hx'⟩

/-- Containment of two ranges is a comparison of their ends because the inner one is not empty. -/
theorem covers_iff_forall_zone (x y : ZoneItem) : x.covers y = true ↔ ∀ z, y.has z → x.has z := by
  rw [covers_iff_bounds]
  exact (Set.Ico_subset_Ico_iff (base_lt_end y)).symm

theorem holds_iff_covered (s : State) (it : ZoneItem) :
    s.holds it = true ↔ ∃ h ∈ s.zone.hold, h.item.covers it = true :=
  List.any_eq_true

/-- Settles O16: alignment, conflict, cover and holding, each by its own lemma. -/
theorem zoneItemsAlignCoverAndConflict : Obligations.ZoneItemsAlignCoverAndConflict := by
  unfold Obligations.ZoneItemsAlignCoverAndConflict
  exact ⟨fun it => ⟨align_span it, align_base_mod it, align_base_le it, base_lt_align_base_add it⟩,
    fun w => ⟨rfl, itemOfWord_isAligned w⟩, conflicts_iff_shared_zone, covers_iff_forall_zone, holds_iff_covered⟩

end Sys2Proof.Machine
end

section
/-! SUPPORT. O15, the stop curve (R62, R63). The root found one bit at a time is the library's `Nat.sqrt`: with `k` bits to
go, the root lies in the `2 ^ k` values from the bits found so far. Allowance, distance and radicand are each bounded under
the ranges of the configuration, and the radicand is far below the one at which 32 bits of root would end. -/

namespace Sys2Proof.Machine

/-! ### The integer root -/

theorem rootBits_eq_sqrt {n k r : Nat} (lower : r ≤ n.sqrt) (upper : n.sqrt < r + 2 ^ k) :
    rootBits n k r = n.sqrt := by
  induction k generalizing r with
  | zero =>
    have found : r = n.sqrt := by omega
    rwa [rootBits]
  | succ k ih =>
    rw [rootBits]
    split
    · next h => exact ih (Nat.le_sqrt.2 h) (by omega)
    · next h => exact ih lower (Nat.sqrt_lt.2 (not_le.1 h))

theorem intRoot_eq_sqrt {n : Nat} (h : n < 2 ^ 64) : intRoot n = n.sqrt :=
  rootBits_eq_sqrt (Nat.zero_le _) (by rw [Nat.zero_add]; exact Nat.sqrt_lt.2 h)

/-! ### The allowance, the distance and the radicand -/

theorem reactionAllowance_le {s : State} (speed : s.path.speed ≤ 4000) (time : s.cfg.reactionTime ≤ 500) :
    reactionAllowance s ≤ 2000 :=
  calc reactionAllowance s ≤ 4000 * 500 / 1000 := Nat.div_le_div_right (Nat.mul_le_mul speed time)
    _ = 2000 := rfl

/-- R62 step 3: the model's truncated minimum clamps the distance at both ends. -/
theorem curveDistance_eq (s : State) (mark margin : Nat) :
    curveDistance s mark margin =
      let raw : Int := (mark : Int) - margin - s.path.odometer - reactionAllowance s
      if raw ≤ 0 then 0 else if 65535 < raw then 65535 else raw.toNat := by
  unfold curveDistance
  dsimp only
  split
  · omega
  · split <;> omega

theorem curveDistance_le (s : State) (mark margin : Nat) : curveDistance s mark margin ≤ 65535 :=
  min_le_left _ _

/-- What stands under the root of R63. -/
def stopRadicand (s : State) (mark margin vEnd : Nat) : Nat :=
  vEnd * vEnd + 2 * s.cfg.serviceDecel * curveDistance s mark margin

theorem stopRadicand_le {s : State} {vEnd : Nat} (decel : s.cfg.serviceDecel ≤ 2000) (cap : vEnd ≤ 2550)
    (mark margin : Nat) : stopRadicand s mark margin vEnd ≤ 268642500 :=
  calc stopRadicand s mark margin vEnd
    _ ≤ 2550 * 2550 + 2 * 2000 * 65535 :=
      Nat.add_le_add (Nat.mul_self_le_mul_self cap)
        (Nat.mul_le_mul (Nat.mul_le_mul_left 2 decel) (curveDistance_le s mark margin))
    _ = 268642500 := rfl

/-! ### The value -/

theorem stopCurve_eq_min_sqrt {s : State} {mark margin vEnd : Nat}
    (small : stopRadicand s mark margin vEnd ≤ 268642500) :
    stopCurve s mark margin vEnd = min 4000 (stopRadicand s mark margin vEnd).sqrt := by
  rw [← intRoot_eq_sqrt (small.trans_lt (by decide))]
  rfl

theorem le_sqrt_stopRadicand (s : State) (mark margin vEnd : Nat) :
    vEnd ≤ (stopRadicand s mark margin vEnd).sqrt :=
  Nat.le_sqrt.2 (Nat.le_add_right _ _)

/-- Settles O15: the value is the library's root of the radicand, held at 4000. -/
theorem stopCurveIsTheExactRoot : Obligations.StopCurveIsTheExactRoot := by
  unfold Obligations.StopCurveIsTheExactRoot
  intro s mark margin vEnd speed time decel cap
  have small := stopRadicand_le decel cap mark margin
  have value := stopCurve_eq_min_sqrt small
  have fromEnd := le_sqrt_stopRadicand s mark margin vEnd
  intro r raw d radicand v
  have distance : curveDistance s mark margin = d := curveDistance_eq s mark margin
  have root : v = min 4000 radicand.sqrt := by rwa [stopRadicand, distance] at value
  rw [stopRadicand, distance] at small fromEnd
  refine ⟨reactionAllowance_le speed time, small, ?bound, ?fromEnd, ?notAbove, ?largest⟩
  case bound => exact root ▸ min_le_left _ _
  case fromEnd => exact root ▸ le_min (cap.trans (by decide)) fromEnd
  case notAbove => exact Nat.le_sqrt.1 (root ▸ min_le_right _ _)
  case largest =>
    intro below
    have reached : radicand.sqrt = v := by omega
    exact Nat.sqrt_lt.1 (by omega)

end Sys2Proof.Machine
end

section
/-! SUPPORT. O14, the limit table (R61). The lowest entry is told by its lower bounds; the binding source by where the search
through the ten sources, which stand in the order of their codes, stops. -/

namespace Sys2Proof.Machine

/-! ### The lowest entry -/

theorem LimitTable.le_effective_iff {t : LimitTable} {n : Nat} : n ≤ t.effective ↔ ∀ k, n ≤ t.get k := by
  simp only [LimitTable.effective, le_min_iff]
  constructor
  · rintro ⟨cap, zone, tag, guide, load, showHold, ride, restraint, channel, safety⟩ k
    cases k <;> assumption
  · intro h
    exact ⟨h .cap, h .zone, h .tag, h .guide, h .load, h .showHold, h .ride, h .restraint, h .channel, h .safety⟩

theorem LimitTable.effective_le_get (t : LimitTable) (k : LimitSource) : t.effective ≤ t.get k :=
  LimitTable.le_effective_iff.1 le_rfl k

/-- Were every entry above the lowest, so would be the lowest. -/
theorem LimitTable.exists_get_eq_effective (t : LimitTable) : ∃ k, t.get k = t.effective := by
  by_contra! none
  have above (k : LimitSource) : t.effective + 1 ≤ t.get k := lt_of_le_of_ne (t.effective_le_get k) (none k).symm
  exact Nat.not_succ_le_self _ (LimitTable.le_effective_iff.2 above)

theorem LimitTable.effective_eq_of_forall {t : LimitTable} {n : Nat} (h : ∀ k, t.get k = n) : t.effective = n := by
  obtain ⟨k, hk⟩ := t.exists_get_eq_effective
  rw [← hk, h k]

/-! ### The binding source -/

theorem LimitSource.mem_all (k : LimitSource) : k ∈ LimitSource.all := by
  cases k <;> decide

theorem LimitSource.all_sorted : LimitSource.all.Pairwise fun k l => k.code < l.code := by
  decide

/-- R61: where the search for the binding source stops, and what it has passed. -/
theorem LimitTable.binding_search (t : LimitTable) :
    ∃ before after, LimitSource.all = before ++ t.binding :: after ∧ t.get t.binding = t.effective ∧
      ∀ k ∈ before, t.get k ≠ t.effective := by
  obtain ⟨k, hk⟩ := t.exists_get_eq_effective
  have stops : (LimitSource.all.find? fun k => t.get k == t.effective).isSome :=
    List.find?_isSome.2 ⟨k, k.mem_all, beq_iff_eq.2 hk⟩
  obtain ⟨b, found⟩ := Option.isSome_iff_exists.1 stops
  have binding : t.binding = b := by rw [LimitTable.binding, found, Option.getD_some]
  obtain ⟨holds, before, after, split, passed⟩ := List.find?_eq_some_iff_append.1 found
  rw [binding]
  exact ⟨before, after, split, beq_iff_eq.1 holds, fun k hk => by simpa using passed k hk⟩

theorem LimitTable.get_binding (t : LimitTable) : t.get t.binding = t.effective := by
  obtain ⟨_, _, _, holds, _⟩ := t.binding_search
  exact holds

/-- A source with a lower code stands before the binding source, so the search has passed it. -/
theorem LimitTable.effective_lt_of_code_lt {t : LimitTable} {k : LimitSource} (h : k.code < t.binding.code) :
    t.effective < t.get k := by
  obtain ⟨before, after, split, _, passed⟩ := t.binding_search
  have sorted := LimitSource.all_sorted
  rw [split, List.pairwise_append, List.pairwise_cons] at sorted
  obtain ⟨_, ⟨later, _⟩, _⟩ := sorted
  have listed := k.mem_all
  rw [split, List.mem_append, List.mem_cons] at listed
  obtain early | rfl | late := listed
  · exact lt_of_le_of_ne (t.effective_le_get k) (passed k early).symm
  · exact absurd h (lt_irrefl _)
  · exact absurd h (later k late).not_gt

/-- CAP, the first source, binds as soon as it holds the lowest value. -/
theorem LimitTable.binding_eq_cap {t : LimitTable} (h : t.get .cap = t.effective) : t.binding = .cap := by
  have found : (LimitSource.all.find? fun k => t.get k == t.effective) = some .cap :=
    List.find?_cons_of_pos (beq_iff_eq.2 h)
  rw [LimitTable.binding, found, Option.getD_some]

/-- Settles O14: the lowest entry by its lower bounds, the binding source by the search that finds it. -/
theorem effectiveLimitAndBindingSource : Obligations.EffectiveLimitAndBindingSource := by
  unfold Obligations.EffectiveLimitAndBindingSource
  refine ⟨fun t => ⟨t.effective_le_get, t.get_binding, fun k => LimitTable.effective_lt_of_code_lt, fun all => ?_⟩,
    fun s => rfl⟩
  have lowest := LimitTable.effective_eq_of_forall all
  exact ⟨lowest, LimitTable.binding_eq_cap ((all .cap).trans lowest.symm)⟩

end Sys2Proof.Machine
end

section
/-! SUPPORT. O42, HOLDALL (R77). An accepted frame that does not end DEAF has exactly the effect of R24 steps 1 to 3. One that
ends it may complete a claim, which changes the limit table but neither the rest of the Motion Governor nor the fault
record: `stopRecord` is these two. -/

namespace Sys2Proof.Machine

/-! ### What no claim changes -/

/-- The Motion Governor apart from its limit table, and Start-up and Status, with the fault record, apart from its
counters, of which one counts the frames that the POSE at once displaces. -/
def State.stopRecord (s : State) : GovernorState × StartUpState :=
  ({ s.governor with limits := LimitTable.reset }, { s.startUp with counters := Counters.zero })

section Fields

variable {a b : State}

theorem stopRecord_of_exceptShow (h : a.exceptShow = b.exceptShow) : a.stopRecord = b.stopRecord := by
  have g := congrArg State.stopRecord h
  exact g

theorem causes_of_stopRecord (h : a.stopRecord = b.stopRecord) : a.governor.causes = b.governor.causes :=
  congrArg (fun r => r.1.causes) h

theorem target_of_stopRecord (h : a.stopRecord = b.stopRecord) : a.governor.target = b.governor.target :=
  congrArg (fun r => r.1.target) h

theorem brake_of_stopRecord (h : a.stopRecord = b.stopRecord) : a.governor.brake = b.governor.brake :=
  congrArg (fun r => r.1.brake) h

theorem faults_of_stopRecord (h : a.stopRecord = b.stopRecord) : a.startUp.faults = b.startUp.faults :=
  congrArg (fun r => r.2.faults) h

theorem first_of_stopRecord (h : a.stopRecord = b.stopRecord) : a.startUp.first = b.startUp.first :=
  congrArg (fun r => r.2.first) h

end Fields

@[simp] theorem stopRecord_advance (dt : Nat) (s : State) : (advance dt s).stopRecord = s.stopRecord := rfl

@[simp] theorem stopRecord_setLimit (k : LimitSource) (v : Nat) (s : State) :
    (setLimit k v s).stopRecord = s.stopRecord := rfl

@[simp] theorem stopRecord_withChannel (x : ChannelState) (s : State) :
    (withChannel x s).stopRecord = s.stopRecord := rfl

@[simp] theorem stopRecord_withZone (x : ZoneState) (s : State) : (withZone x s).stopRecord = s.stopRecord := rfl

@[simp] theorem stopRecord_startClaim (s : State) : (startClaim s).stopRecord = s.stopRecord := by
  unfold startClaim
  split
  · split <;> rfl
  · rfl

@[simp] theorem stopRecord_confirmHere (s : State) : (confirmHere s).stopRecord = s.stopRecord := by
  unfold confirmHere
  split
  · split <;> rfl
  · rfl

@[simp] theorem stopRecord_setZone (s : State) : (setZone s).stopRecord = s.stopRecord := rfl

@[simp] theorem stopRecord_completeClaim (it : ZoneItem) (s : State) :
    (completeClaim it s).stopRecord = s.stopRecord := by
  simp [completeClaim]

@[simp] theorem stopRecord_claimTest (s : State) : (claimTest s).stopRecord = s.stopRecord := by
  unfold claimTest
  split
  · rfl
  · split
    · rfl
    · split
      · exact stopRecord_completeClaim _ s
      · rfl

/-- R24: taking in a frame raises and ends no stop and touches no fault. -/
@[simp] theorem stopRecord_acceptFrame (f : RawFrame) (b : RxBody) (s : State) :
    (acceptFrame f b s).stopRecord = s.stopRecord := by
  unfold acceptFrame
  dsimp only
  rw [stopRecord_withChannel]
  split
  · split
    · rfl
    · exact (stopRecord_claimTest _).trans rfl
  · rfl

@[simp] theorem stopRecord_settle (before after : State) : (settle before after).stopRecord = after.stopRecord :=
  stopRecord_of_exceptShow (exceptShow_settle before after)

/-! ### An accepted frame -/

/-- Whether a frame is accepted does not depend on the time. -/
theorem judgeFrame_advance (dt : Nat) (s : State) (bytes : List Byte) :
    judgeFrame (advance dt s) bytes = judgeFrame s bytes := rfl

theorem onAccepted_of_accepted {bytes : List Byte} {own : RawFrame → RxBody → State → Option State} {s t : State}
    {f : RawFrame} {b : RxBody} (judged : judgeFrame s bytes = .accepted f b)
    (taken : own f b (acceptFrame f b s) = some t) : onAccepted bytes own s = t := by
  unfold onAccepted
  rw [judged]
  exact congrArg (·.getD s) taken

/-- R24 steps 1 to 3 while the part is not DEAF. -/
theorem acceptFrame_of_not_deaf {s : State} (h : s.channel.deaf = false) (dt : Nat) (f : RawFrame) (b : RxBody) :
    acceptFrame f b (advance dt s) = s.afterFrame dt f := by
  have quiet : (receiverDone (startDeafTimer (advance dt s))).channel.deaf = false := h
  unfold acceptFrame
  dsimp only
  rw [quiet]
  rfl

/-! ### HOLDALL -/

/-- R77: an accepted HOLDALL is R24 with RIDE at 0 after it, and a POSE at once where a claim completed calls for one. -/
theorem execHoldall_of_accepted {dt : Nat} {bytes : List Byte} {f : RawFrame} {s : State}
    (judged : judgeFrame s bytes = .accepted f .holdall) :
    execHoldall dt bytes s =
      .next (settle (advance dt s) (setLimit .ride 0 (acceptFrame f .holdall (advance dt s)))) := by
  have heard : judgeFrame (advance dt s) bytes = .accepted f .holdall := (judgeFrame_advance dt s bytes).trans judged
  rw [execHoldall, event, onAccepted_of_accepted heard rfl]

theorem poseKey_afterFrame (s : State) (dt : Nat) (f : RawFrame) : poseKey (s.afterFrame dt f) = poseKey s := rfl

/-- Settles O42: without DEAF nothing is reported anew, so no POSE follows; with it, the POSE at once and the claim leave
RIDE, the causes and the faults alone. -/
theorem holdallSetsRideToZero : Obligations.HoldallSetsRideToZero := by
  unfold Obligations.HoldallSetsRideToZero
  intro dt bytes f s judged
  have run : exec (.holdall dt bytes) s = _ := execHoldall_of_accepted judged
  refine ⟨fun quiet => ?heard, _, run, ?held⟩
  case heard =>
    have silent : poseKey (advance dt s) = poseKey (setLimit .ride 0 (s.afterFrame dt f)) := by
      rw [poseKey_setLimit, poseKey_afterFrame, poseKey_advance]
    rw [run, acceptFrame_of_not_deaf quiet, settle_of_poseKey_eq silent]
    rfl
  case held =>
    generalize told : settle (advance dt s) (setLimit .ride 0 (acceptFrame f .holdall (advance dt s))) = t
    have ride : t.governor.limits.ride = 0 :=
      told ▸ limit_of_exceptShow (l := .ride) (exceptShow_settle _ _) nofun
    have record : t.stopRecord = s.stopRecord := by
      rw [← told, stopRecord_settle, stopRecord_setLimit, stopRecord_acceptFrame, stopRecord_advance]
    exact ⟨ride, causes_of_stopRecord record, faults_of_stopRecord record, first_of_stopRecord record,
      target_of_stopRecord record, brake_of_stopRecord record⟩

end Sys2Proof.Machine
end
